-- ==== Sys2Proof/Word.lean ====
section
/-! DEFINITION. The word types of the cue line and the video ports, and the per-channel triple. -/

namespace Sys2Proof

/-- One byte of a cue (R164). -/
abbrev Byte := BitVec 8

/-- A two-byte number of a payload, most significant byte first on the line (R167). -/
abbrev U16 := BitVec 16

/-- A station number as a cue carries it: 0..14, and 15 for all stations (R167). -/
abbrev Station := BitVec 4

/-- A pixel sample (R152). -/
abbrev Sample := BitVec 12

/-- One value for each channel (Section 0.5). -/
structure RGB (α : Type) where
  r : α
  g : α
  b : α
deriving DecidableEq, Repr

/-- The same value on every channel. -/
def RGB.all {α : Type} (a : α) : RGB α := ⟨a, a, a⟩

/-- A statement made for one channel, made for all three. -/
def RGB.map {α β : Type} (f : α → β) (t : RGB α) : RGB β := ⟨f t.r, f t.g, f t.b⟩

/-- A statement about two values of one channel, made for all three. -/
def RGB.zip {α β γ : Type} (f : α → β → γ) (t : RGB α) (u : RGB β) : RGB γ :=
  ⟨f t.r u.r, f t.g u.g, f t.b u.b⟩

/-- A test that all three channels pass. -/
def RGB.every {α : Type} (p : α → Bool) (t : RGB α) : Bool := p t.r && p t.g && p t.b

/-- The three values in the order R, G, B. -/
def RGB.toList {α : Type} (t : RGB α) : List α := [t.r, t.g, t.b]

end Sys2Proof
end

