-- ==== Sys2Proof/Syntax.lean ====
section
/-! DEFINITION. The commands of the block, one constructor per row of spec/opcode_table.json, with the requests and frames they carry. Fields have the widths the cue line gives them (R169, R170). -/

namespace Sys2Proof

/-- The video standard a strap selects (R181). -/
inductive Standard where
  | s525
  | s625
deriving DecidableEq, Repr

/-- The four straps as read in a power-on reset (Table 11-1). -/
structure Straps where
  station : Station
  standard : Standard
  detect : Bool
  peerCuts : Bool
deriving DecidableEq, Repr

/-- Direction of film travel (Table 6-3). -/
inductive Direction where
  | fwd
  | rev
deriving DecidableEq, Repr

/-- Speed of film travel (Table 6-3). -/
inductive Speed where
  | play
  | vari
  | shuttle
  | still
deriving DecidableEq, Repr

/-- One channel, naming a row of the masking matrix (Table 12-2). -/
inductive Channel where
  | r
  | g
  | b
deriving DecidableEq, Repr

/-- The primary values of one channel as GRADE PRIMARY carries them (Table 10-9). The lift is in two's complement. -/
structure WirePrimary where
  lift : BitVec 16
  gain : BitVec 16
  curve : Byte
deriving DecidableEq, Repr

/-- The rectangle of a vector as GRADE VECTOR carries it: two 12-bit pairs (Table 10-9). -/
structure WireRect where
  x0 : BitVec 12
  x1 : BitVec 12
  y0 : BitVec 12
  y1 : BitVec 12
deriving DecidableEq, Repr

/-- A vector as GRADE VECTOR carries it (Table 10-9). The offsets are in two's complement. -/
structure WireVector where
  lo : RGB (BitVec 12)
  hi : RGB (BitVec 12)
  offset : RGB (BitVec 16)
  rect : Option WireRect
deriving DecidableEq, Repr

/-- A cue that goes through the receive FIFO: a request (kind codes 10h to 2Bh), or a peer's CUT (R172). Byte-wide selectors hold every value the line can carry. -/
inductive Request where
  | sceneMark (frame : U16) (grade trans len : Byte)
  | sceneClear (frame : U16)
  | sceneSet (frame : U16) (grade trans len confirm : Byte)
  | scenePurge
  | sceneQuery (mode : Byte) (arg : U16)
  | gradeNew
  | gradePrimary (slot : Byte) (primary : RGB WirePrimary)
  | gradeVector (slot position : Byte) (vector : WireVector)
  | gradeVectorDelete (slot position : Byte)
  | gradeDrop (slot : Byte)
  | gradeQuery (slot part position : Byte)
  | loadStart (kind curve : Byte) (start : U16) (mode : Byte)
  | loadData (values : List U16)
  | loadInstall
  | loadCancel
  | portRead (port : Byte)
  | portWrite (port : Byte) (data : List Byte)
  | undo
  | clearFaults (latches : Byte)
  | cut (reel frame measure : U16)
deriving DecidableEq, Repr

/-- A received cue of the FIFO: its source, its destination and what it asks (R167, R173). -/
structure Cue where
  src : Station
  dst : Station
  body : Request
deriving DecidableEq, Repr

/-- One frame heard on the line between two guards: its bytes, and whether it holds a framing error (R164). -/
structure Frame where
  framingError : Bool
  bytes : List Byte
deriving DecidableEq, Repr

/-- The commands of the block. -/
inductive Instr where
  /-- POWER_ON_RESET: RESET rises or the supply completes its rise, and the straps read as given (R186). -/
  | powerOnReset (straps : Straps)
  /-- LINE_SYNC: the leading edge of a line sync (R156). -/
  | lineSync
  /-- FIELD_SYNC: a field sync, with the field parity sampled at it (R156, R153). -/
  | fieldSync (parity : Bool)
  /-- MISSING_SYNC_EXPIRY: the missing-sync timer reaches its period (R157). -/
  | missingSyncExpiry
  /-- ROLL_CALL_WINDOW_END: the roll-call timer reaches 0 (R185). -/
  | rollCallWindowEnd
  /-- GUARD_COMPLETE: a guard completes. The frame heard before it, or nothing heard from another station (R164, R171). -/
  | guardComplete (heard : Option Frame)
  /-- REEL: a REEL cue is taken at its arrival (R97). -/
  | reel (src : Station) (id len : U16)
  /-- FRAME: a FRAME cue is taken at its arrival (R102, R104). -/
  | frame (src : Station) (index : U16) (dir : Direction) (speed : Speed) (lead span : BitVec 2)
  /-- PRESENT: a PRESENT cue is taken at its arrival (R183). -/
  | present (src : Station) (role ask : Byte)
  /-- LINE_RESET: a LINE RESET cue arrives (R188). -/
  | lineReset (src : Station)
  /-- HOLD: a HOLD cue is taken at its arrival (R113). -/
  | hold (src : Station)
  /-- RELEASE: a RELEASE cue is taken at its arrival (R113). -/
  | release (src : Station)
  /-- SCENE_MARK: the service of SCENE MARK ends (R73). -/
  | sceneMark (src dst : Station) (frame : U16) (grade trans len : Byte)
  /-- SCENE_CLEAR: the service of SCENE CLEAR ends (R74). -/
  | sceneClear (src dst : Station) (frame : U16)
  /-- SCENE_SET: the service of SCENE SET ends (R75). -/
  | sceneSet (src dst : Station) (frame : U16) (grade trans len confirm : Byte)
  /-- SCENE_PURGE: the service of SCENE PURGE ends (R78). -/
  | scenePurge (src dst : Station)
  /-- SCENE_QUERY: the service of SCENE QUERY ends (R79, R80). -/
  | sceneQuery (src dst : Station) (mode : Byte) (arg : U16)
  /-- GRADE_NEW: the service of GRADE NEW ends (R48). -/
  | gradeNew (src dst : Station)
  /-- GRADE_PRIMARY: the service of GRADE PRIMARY ends (R54). -/
  | gradePrimary (src dst : Station) (slot : Byte) (primary : RGB WirePrimary)
  /-- GRADE_VECTOR: the service of GRADE VECTOR ends (R55). -/
  | gradeVector (src dst : Station) (slot position : Byte) (vector : WireVector)
  /-- GRADE_VECTOR_DELETE: the service of GRADE VECTOR DELETE ends (R56). -/
  | gradeVectorDelete (src dst : Station) (slot position : Byte)
  /-- GRADE_DROP: the service of GRADE DROP ends (R50). -/
  | gradeDrop (src dst : Station) (slot : Byte)
  /-- GRADE_QUERY: the service of GRADE QUERY ends (R60). -/
  | gradeQuery (src dst : Station) (slot part position : Byte)
  /-- LOAD_START: the service of LOAD START ends (R33). -/
  | loadStart (src dst : Station) (kind curve : Byte) (start : U16) (mode : Byte)
  /-- LOAD_DATA: the service of LOAD DATA ends (R35). -/
  | loadData (src dst : Station) (values : List U16)
  /-- LOAD_INSTALL: the service of LOAD INSTALL ends (R37). -/
  | loadInstall (src dst : Station)
  /-- LOAD_CANCEL: the service of LOAD CANCEL ends (R41). -/
  | loadCancel (src dst : Station)
  /-- PORT_READ: the service of PORT READ ends (R193). -/
  | portRead (src dst : Station) (port : Byte)
  /-- PORT_WRITE_REPORT_ENABLES: the service of a PORT WRITE to port 4 ends (R192). -/
  | portWriteReportEnables (src dst : Station) (flags : U16)
  /-- PORT_WRITE_FILM_MODE: the service of a PORT WRITE to port 5 ends (R194). -/
  | portWriteFilmMode (src dst : Station) (mode : Byte)
  /-- PORT_WRITE_MATRIX: the service of a PORT WRITE to port 6, 7 or 8 ends (R194). -/
  | portWriteMatrix (src dst : Station) (row : Channel) (coefficients : RGB (BitVec 16))
  /-- PORT_WRITE_CUT_THRESHOLD: the service of a PORT WRITE to port 9 ends (R145). -/
  | portWriteCutThreshold (src dst : Station) (value : U16)
  /-- PORT_WRITE_MIN_SCENE: the service of a PORT WRITE to port 10 ends (R145). -/
  | portWriteMinScene (src dst : Station) (value : U16)
  /-- PORT_WRITE: the service of a PORT WRITE to any port with any contents ends (R193). -/
  | portWrite (src dst : Station) (port : Byte) (data : List Byte)
  /-- UNDO: the service of UNDO ends (R90). -/
  | undo (src dst : Station)
  /-- CLEAR_FAULTS: the service of CLEAR FAULTS ends (R190). -/
  | clearFaults (src dst : Station) (latches : Byte)
  /-- PEER_CUT: the service of a peer's CUT cue ends (R149). -/
  | peerCut (src dst : Station) (reel frame measure : U16)
  /-- TRANSMIT_START: the engine's deferral ends on an idle line (R165). -/
  | transmitStart
  /-- DEFERRAL_YIELD: another station's start bit is heard (R165). -/
  | deferralYield
  /-- TRANSMIT_ABANDON: a readback mismatch in the cue being sent (R166). -/
  | transmitAbandon
  /-- TRANSMIT_COMPLETE: the last bit of the cue being sent is read back as sent (R166). -/
  | transmitComplete
  /-- PIXEL_CLOCK: one cycle of the pixel clock, with the samples and sync inputs it samples (R152). -/
  | pixelClock (red green blue : Sample) (lineSync fieldSync parity : Bool)
  /-- RESET_ASSERTED: RESET is driven low or the supply falls (R154). -/
  | resetAsserted
deriving DecidableEq, Repr

end Sys2Proof
end

