-- ==== Sys2Proof/Decode.lean ====
section
/-! DEFINITION. Commands spelled by words. spec/opcode_table.json gives no row any bits, so no word spells a command. The codec of the cue line's frames stands in Machine/CueFormat.lean. -/

namespace Sys2Proof

/-- The command whose bits are `w`. No row of the table has bits (spec/98_reader.md: no row with fixed bits, no row with fields), so the answer is always none. -/
def decodeTableWord (_nbits _w : Nat) : Option Instr := none

end Sys2Proof
end

