-- ==== Sys2Proof/Config.lean ====
section
/-! DEFINITION. The numbers the spec fixes, the straps `State.reset` reads, and the free choices the spec leaves open. -/

namespace Sys2Proof.Config

/-- DESIGN CHOICE (log 13): what the strap pins read in the power-on reset that `State.reset` comes from. `POWER_ON_RESET` gives every other reading. -/
def strapsAtReset : Straps := ⟨0, .s525, false, false⟩

/-- Free choice (log 7): whether, at a boundary where the detector fires, its CUT cue and proposal come before the transition controller's work. R147: either order. -/
opaque firingFirst : Nat → Bool

/-- Free choice (log 6): whether a guard's deferral has begun before the cue arriving at that guard acts (R165, R171 name one moment for both). -/
opaque deferralFirst : Nat → Bool

/-- Free choice (log 8): whether ADDRESS's FAULT meets the full queue before the mute empties it (R171 test 2, R179 name one event for both). -/
opaque addressFaultFirst : Nat → Bool

/-- Places of the receive FIFO (R173). -/
def fifoPlaces : Nat := 4

/-- Places of the transmit queue (R177). -/
def txPlaces : Nat := 8

/-- Entries of the edit history (R84). -/
def historyPlaces : Nat := 16

/-- Records of the scene table (R64). -/
def scenePlaces : Nat := 256

/-- Slots of the grade pool, slot 0 among them (R47). -/
def poolSlots : Nat := 128

/-- Vectors of one grade (R45). -/
def vectorPlaces : Nat := 6

/-- Coasted frames in a row (R110, R111). -/
def coastLimit : Nat := 8

/-- The roll-call window, 500 ms (R185), in cycles of the 13.5 MHz pixel clock (log 10). -/
def rollCallClocks : Nat := 6750000

/-- The missing-sync period of Table 9-2, 33.4 ms or 40.0 ms, in cycles of the 13.5 MHz pixel clock (log 10). -/
def missingSyncClocks : Standard → Nat
  | .s525 => 450900
  | .s625 => 540000

/-- The output port's latency in pixel clocks (R25, R154). -/
def outputLatency : Nat := 96

/-- Active frame lines L (R7). -/
def frameLines : Standard → Nat
  | .s525 => 486
  | .s625 => 576

/-- The two line counts of a good field (Table 9-2). -/
def goodCount : Standard → Nat → Bool
  | .s525, n => n == 262 || n == 263
  | .s625, n => n == 312 || n == 313

/-- First active line number of a field (R152). -/
def firstLine : Standard → Nat
  | .s525 => 20
  | .s625 => 23

/-- Last active line number of a field (R152). -/
def lastLine : Standard → Nat
  | .s525 => 262
  | .s625 => 310

/-- Last sampled field line of the detector's grid (Table 8-2). -/
def lastSampledLine : Standard → Nat
  | .s525 => 240
  | .s625 => 284

/-- Samples of a whole field, S (R138). -/
def fieldSamples : Standard → Nat
  | .s525 => 5490
  | .s625 => 6480

end Sys2Proof.Config
end

