-- ==== Sys2Proof/Machine/State.lean ====
section
/-! DEFINITION. The state of the engine, block by block as Table 0-1 lists them, and the state right after a power-on reset. -/

namespace Sys2Proof.Machine

/-- The reasons the engine stops with a fault. There is none: the spec gives every event an outcome (a latch, a refusal result, or nothing). -/
inductive Fault where
deriving DecidableEq, Repr

/-- The reasons the model has no meaning for a command. -/
inductive Refusal where
  /-- Raised by an arm of `exec` whose command has no meaning yet; safe. No arm raises it. -/
  | notModelled (mnemonic : String)
deriving DecidableEq, Repr

/-! ## Video ports and raster lock (Chapter 9) -/

/-- What the output port presents in one pixel clock (R154). -/
structure OutPixel where
  code : RGB Nat
  lineSync : Bool
  fieldSync : Bool
  parity : Bool
deriving DecidableEq, Repr

/-- Code 64 on all three channels with no sync (R154). -/
def OutPixel.blank : OutPixel := ⟨RGB.all 64, false, false, false⟩

/-- The video ports: the position and parity of the pixel being sampled (R152, R153), the 96-clock delay and the output port (R154). -/
structure Video where
  parity : Bool
  clocksIntoLine : Nat
  /-- The pixels sampled in the last 96 clocks, oldest first. -/
  delay : List OutPixel
  out : OutPixel
deriving DecidableEq, Repr

/-- The raster lock monitor (Table 9-1). -/
structure Raster where
  locked : Bool
  lineCount : Nat
  fieldOpen : Bool
  goodRun : Nat
  badRun : Nat
  /-- Pixel clocks since the missing-sync timer was last started (log 10). -/
  sinceStart : Nat
deriving DecidableEq, Repr

/-! ## Grades and the pipeline (Chapters 1 to 3) -/

/-- The primary values of one channel (Table 3-1). -/
structure Primary where
  lift : Int
  gain : Nat
  curve : Nat
deriving DecidableEq, Repr

/-- The rectangle of a vector, in pixels and frame lines (Table 3-2). -/
structure Rect where
  x0 : Nat
  x1 : Nat
  y0 : Nat
  y1 : Nat
deriving DecidableEq, Repr

/-- One vector of a grade (Table 3-2). -/
structure Vec where
  lo : RGB Nat
  hi : RGB Nat
  offset : RGB Int
  rect : Option Rect
deriving DecidableEq, Repr

/-- A grade record (R44, R45): a context's copy holds the same (R119). -/
structure Grade where
  primary : RGB Primary
  vectors : List Vec
deriving DecidableEq, Repr

/-- The flat grade of slot 0 (R46). -/
def Grade.flat : Grade := ⟨RGB.all ⟨0, 1024, 0⟩, []⟩

/-- Film mode (R9). -/
inductive FilmMode where
  | positive
  | negative
deriving DecidableEq, Repr

/-- The masking matrix: for each output channel its row of three coefficients (R10). -/
abbrev Matrix := RGB (RGB Int)

/-- 256 on the diagonal, 0 elsewhere (R10). -/
def Matrix.identity : Matrix := ⟨⟨256, 0, 0⟩, ⟨0, 256, 0⟩, ⟨0, 0, 256⟩⟩

/-- The identity curve: point i is 16 × i (R27). -/
def identityCurve : List Nat := (List.range 257).map (16 * ·)

/-- The field snapshot (Table 1-2). The controller state it holds is RUNNING exactly when it holds an INCOMING copy. -/
structure Snapshot where
  filmMode : FilmMode
  matrix : Matrix
  shadeH : List Nat
  shadeV : List Nat
  curves : List (List Nat)
  current : Grade
  incoming : Option Grade
  weight : Nat
deriving DecidableEq, Repr

/-- The table a load will replace (Table 2-1). -/
inductive LoadTarget where
  | curve (n : Nat)
  | shadingH
  | shadingV
deriving DecidableEq, Repr

/-- How the pointer moves (R34). -/
inductive PointerMode where
  | increment
  | decrement
  | hold
deriving DecidableEq, Repr

/-- Loader state (Table 2-1). -/
inductive LoaderState where
  | idle
  | filling
  | installPending
deriving DecidableEq, Repr

/-- The loader (Table 2-1). -/
structure Loader where
  state : LoaderState
  target : Option LoadTarget
  buffer : List Nat
  pointer : Nat
  mode : PointerMode
  requester : Option Station
deriving DecidableEq, Repr

/-- The loader in IDLE. DESIGN CHOICE (log 23): what the buffer, pointer and mode hold there; R30: they have no effect. -/
def Loader.idle : Loader := ⟨.idle, none, [], 0, .increment, none⟩

/-- An allocated slot: its record and its reference count (R47). -/
structure Slot where
  grade : Grade
  refs : Nat
deriving DecidableEq, Repr

/-- The grade pool (R47): 128 slots, `some` where the allocation map has its mark. -/
structure Pool where
  slots : List (Option Slot)
deriving DecidableEq, Repr

/-- Slot 0 allocated alone, with the flat grade (R47, R51). -/
def Pool.initial : Pool := ⟨some ⟨Grade.flat, 0⟩ :: List.replicate 127 none⟩

/-! ## The scene table and the edit history (Chapters 4 and 5) -/

/-- How a scene's grade comes onto the picture (Table 4-1). -/
inductive Transition where
  | cut
  | dissolve
deriving DecidableEq, Repr

/-- Who placed a scene record (R77). -/
inductive Origin where
  | console
  | detector
  | peer (station : Station)
deriving DecidableEq, Repr

/-- A scene record (Table 4-1). -/
structure Scene where
  start : Nat
  slot : Nat
  trans : Transition
  length : Nat
  origin : Origin
  confirmed : Bool
deriving DecidableEq, Repr

/-- The head scene of power-on and of every reel change (R68). -/
def Scene.head : Scene := ⟨0, 0, .cut, 1, .console, true⟩

/-- A history entry (Table 5-1). -/
inductive Entry where
  | sceneInserted (frame : Nat)
  | sceneRemoved (record : Scene)
  | sceneChanged (record : Scene)
  | primaryChanged (slot : Nat) (prior : RGB Primary)
  | vectorsChanged (slot : Nat) (prior : List Vec)
deriving DecidableEq, Repr

/-- The edit history (R84, R88). -/
structure History where
  /-- Oldest first, newest last. -/
  entries : List Entry
  complete : Bool
deriving DecidableEq, Repr

/-! ## Frame following, transitions and cut detection (Chapters 6 to 8) -/

/-- The reel held (R95). -/
structure Reel where
  id : Nat
  length : Nat
deriving DecidableEq, Repr

/-- An entry of the field schedule (R104). -/
structure Announced where
  frame : Nat
  dir : Direction
  speed : Speed
  span : Nat
  first : Nat
deriving DecidableEq, Repr

/-- The current frame record (Table 6-5). -/
structure CurrentFrame where
  frame : Nat
  dir : Direction
  speed : Speed
  span : Nat
  shown : Nat
deriving DecidableEq, Repr

/-- The frame follower (Table 6-1). The engine state is derived from it (R117). -/
structure Follower where
  reel : Option Reel
  fieldCount : Nat
  schedule : List Announced
  current : Option CurrentFrame
  coast : Nat
  holdConsole : Bool
  holdCoast : Bool
deriving DecidableEq, Repr

/-- A grade context (R119). -/
structure Context where
  slot : Nat
  copy : Grade
  mark : Bool
deriving DecidableEq, Repr

/-- The transition controller (Table 7-1). It is RUNNING exactly when INCOMING names a slot. -/
structure Controller where
  current : Context
  incoming : Option Context
  sceneStart : Nat
  length : Nat
  count : Nat
  holdExit : Bool
deriving DecidableEq, Repr

/-- The field capture (R141). -/
structure Capture where
  frame : Nat
  dir : Direction
  speed : Speed
  sceneStart : Nat
deriving DecidableEq, Repr

/-- The reference histogram and the frame it was taken from (R142). -/
structure Reference where
  frame : Nat
  bins : List Nat
deriving DecidableEq, Repr

/-- The last measure and its frame (R144). -/
structure Measure where
  value : Nat
  frame : Nat
deriving DecidableEq, Repr

/-- The cut detector (Table 8-1). -/
structure Detector where
  bins : List Nat
  capture : Option Capture
  reference : Option Reference
  measure : Option Measure
deriving DecidableEq, Repr

/-! ## The cue line (Chapter 10) -/

/-- Result codes, in the order of Table 10-6. -/
inductive Result where
  | done
  | doneClamped
  | busy
  | full
  | notFound
  | exists
  | inUse
  | empty
  | readOnly
  | denied
  | noReel
  | outOfReel
  | wrongState
  | cancelled
deriving DecidableEq, Repr

/-- A cue the engine sends, without its source, which is always its own number (R179). -/
inductive TxBody where
  /-- The request's kind code, the result and the reply data (R175). -/
  | reply (kind : Byte) (result : Result) (data : List Byte)
  /-- The latches newly set and the latches held (R191). -/
  | fault (newly held : BitVec 8)
  /-- Table 8-3. -/
  | cut (reel frame measure : Nat)
  /-- Table 7-3. -/
  | sceneEntered (reel sceneStart frame slot : Nat) (made : Transition) (length field : Nat)
  /-- The own PRESENT, role ENGINE, with its ask mark (R184). -/
  | present (ask : Bool)
deriving DecidableEq, Repr

/-- A cue to send and its destination. -/
structure TxCue where
  dst : Station
  body : TxBody
deriving DecidableEq, Repr

/-- A place of the transmit queue: the cue, its joining order and its abandoned attempts (Table 10-1). -/
structure TxEntry where
  cue : TxCue
  joined : Nat
  attempts : Nat
deriving DecidableEq, Repr

/-- A deferral in progress: the chosen cue's joining number, and how many slots of 2 µs it lasts (R165). -/
structure Deferral where
  joined : Nat
  slots : Nat
deriving DecidableEq, Repr

/-- The cue line interface and the request handler (Table 10-1). -/
structure Line where
  fifo : List Cue
  /-- Sources of LINE RESETs that wait for the running service to end, oldest first (R172). -/
  lineResets : List Station
  /-- In sending order: by class, then oldest first (R177). -/
  tx : List TxEntry
  nextJoin : Nat
  /-- The joining number of the cue being sent. -/
  inFlight : Option Nat
  deferral : Option Deferral
  /-- The line has been idle for a guard or longer (R164). -/
  idle : Bool
  /-- The bytes of the cue this engine has sent whole since the last guard (R171 test 2, log 4). -/
  sentWhole : Option (List Byte)
  mute : Bool
deriving DecidableEq, Repr

/-- A role of the roster; ABSENT is `none` (R182). -/
inductive Role where
  | transport
  | scanner
  | recorder
  | console
  | engine
  | other
deriving DecidableEq, Repr

/-- The reel profile (R194). -/
structure Profile where
  filmRequested : FilmMode
  filmInEffect : FilmMode
  matrix : Matrix
  threshold : Nat
  minScene : Nat
deriving DecidableEq, Repr

/-! ## The whole engine -/

/-- The engine and its queue of waiting commands. -/
structure State where
  straps : Straps
  /-- RESET is held low, or the supply is down (R154). -/
  resetHeld : Bool
  video : Video
  raster : Raster
  snapshot : Snapshot
  /-- The coder forces black until a boundary ends it (R23, R24). -/
  forcedBlack : Bool
  curves : List (List Nat)
  shadeH : List Nat
  shadeV : List Nat
  loader : Loader
  pool : Pool
  scenes : List Scene
  history : History
  follower : Follower
  controller : Controller
  detector : Detector
  line : Line
  /-- Entries of stations 0..14 (R182). -/
  roster : List (Option Role)
  /-- The roll-call window: stopped, or running with this many pixel clocks left (R185, log 10). -/
  rollCall : Option Nat
  /-- The latches held, bits in the order of Table 12-1. -/
  latches : BitVec 8
  /-- Report enables: the latches' in the order of Table 12-1, bit 8 CUT, bit 9 SCENE ENTERED (R170, R192). -/
  enables : BitVec 10
  profile : Profile
  /-- The model's own: free choices taken so far (log 24). -/
  freeCount : Nat
  /-- The model's own: commands waiting, first in first out. -/
  pending : List Instr
deriving DecidableEq, Repr

/-- The roster of a reset: the own entry alone (R182); an invalid STATION strap has none (R181). -/
def ownRoster (station : Station) : List (Option Role) :=
  (List.replicate 15 none).set station.toNat (some .engine)

/-- The cue line interface with nothing received and nothing to send (R186). -/
def Line.quiet (mute : Bool) : Line := ⟨[], [], [], 0, none, none, false, none, mute⟩

/-- Every block at its power-on values, before what the end of the reset starts (R6, R27, R29, R43, R47, R68, R85, R95, Table 6-1, R122, Table 8-1, R155, R180, R182, R189, R192, R194). -/
def State.cold (straps : Straps) : State where
  straps := straps
  resetHeld := false
  video := ⟨false, 0, List.replicate 96 OutPixel.blank, OutPixel.blank⟩
  raster := ⟨false, 0, false, 0, 0, 0⟩
  snapshot := ⟨.positive, Matrix.identity, List.replicate 64 1024, List.replicate 64 1024,
    List.replicate 16 identityCurve, Grade.flat, none, 0⟩
  forcedBlack := true
  curves := List.replicate 16 identityCurve
  shadeH := List.replicate 64 1024
  shadeV := List.replicate 64 1024
  loader := Loader.idle
  pool := Pool.initial
  scenes := [Scene.head]
  history := ⟨[], true⟩
  follower := ⟨none, 0, [], none, 0, false, false⟩
  controller := ⟨⟨0, Grade.flat, false⟩, none, 0, 0, 0, false⟩
  detector := ⟨List.replicate 16 0, none, none, none⟩
  line := Line.quiet false
  roster := ownRoster straps.station
  rollCall := none
  latches := 0
  enables := BitVec.allOnes 10
  profile := ⟨.positive, .positive, Matrix.identity, 300, 12⟩
  freeCount := 0
  pending := []

/-- The engine at the end of a power-on reset (R186): the PRESENT with ask queued, the roll-call window started. With STATION 15 the mute and ADDRESS are set instead, and the PRESENT is discarded (R181). -/
def State.powerOn (straps : Straps) : State :=
  if straps.station = 15 then
    { State.cold straps with
      line := Line.quiet true
      latches := 0x80
      rollCall := some Config.rollCallClocks }
  else
    { State.cold straps with
      line := { Line.quiet false with
        tx := [⟨⟨15, .present true⟩, 0, 0⟩]
        nextJoin := 1 }
      rollCall := some Config.rollCallClocks }

/-- The machine right after reset: the end of the power-on reset that read `Config.strapsAtReset` (log 13). -/
def State.reset : State := State.powerOn Config.strapsAtReset

end Sys2Proof.Machine
end

