-- ==== Sys2Proof/Machine/Flags.lean ====
section
/-! DEFINITION. Values derived from the state: the engine state (R117), the transport authority (R96), roles, the latches and ATTN (R191), the report enables (R192). -/

namespace Sys2Proof.Machine

/-- The engine states (Table 0-2). -/
inductive EngineState where
  | rollcall
  | unsync
  | standby
  | follow
  | coast
  | hold
deriving DecidableEq, Repr

def EngineState.code : EngineState → Byte
  | .rollcall => 0 | .unsync => 1 | .standby => 2 | .follow => 3 | .coast => 4 | .hold => 5

/-- The engine state, the first of Table 6-6 that applies (R117). -/
def State.engineState (s : State) : EngineState :=
  if s.rollCall.isSome then .rollcall
  else if !s.raster.locked then .unsync
  else if s.follower.reel.isNone then .standby
  else if s.follower.holdConsole || s.follower.holdCoast then .hold
  else if 0 < s.follower.coast then .coast
  else .follow

/-- The role of a station in the roster; none is ABSENT, and station 15 has no entry (R182). -/
def State.role (s : State) (a : Station) : Option Role := s.roster.getD a.toNat none

/-- The transport authority: the lowest-numbered TRANSPORT entry, or none (R96). -/
def State.authority (s : State) : Option Nat := s.roster.findIdx? (· == some .transport)

/-- The eight fault latches, in the order of Table 12-1. -/
inductive Latch where
  | lineCheck
  | rxOverrun
  | txOverflow
  | syncLost
  | timing
  | coastHold
  | tableFull
  | address
deriving DecidableEq, Repr

/-- The bit of a latch in a set of latches (R170). -/
def Latch.index : Latch → Nat
  | .lineCheck => 0 | .rxOverrun => 1 | .txOverflow => 2 | .syncLost => 3
  | .timing => 4 | .coastHold => 5 | .tableFull => 6 | .address => 7

/-- The set holding one latch. -/
def Latch.bit (l : Latch) : BitVec 8 := 1#8 <<< l.index

/-- The latch is set. -/
def State.held (s : State) (l : Latch) : Bool := s.latches.getLsbD l.index

/-- The report enable of a latch is on (R192). -/
def State.reports (s : State) (l : Latch) : Bool := s.enables.getLsbD l.index

/-- The CUT report enable (R170, R192). -/
def State.reportsCut (s : State) : Bool := s.enables.getLsbD 8

/-- The SCENE ENTERED report enable (R170, R192). -/
def State.reportsSceneEntered (s : State) : Bool := s.enables.getLsbD 9

/-- ATTN is driven: a latch is held whose report enable is on, and RESET is not held (R191). -/
def State.attnDriven (s : State) : Bool :=
  !s.resetHeld && (s.latches &&& s.enables.setWidth 8) != 0

/-- The cue in service: the FIFO's head, since a service runs whenever the FIFO is not empty (R173, R174, log 2). -/
def State.entryInService (s : State) : Option Cue := s.line.fifo.head?

/-- Hold causes as a set: bit 0 CONSOLE, bit 1 COAST (R170). -/
def Follower.causes (f : Follower) : Byte :=
  (if f.holdConsole then 1 else 0) ||| (if f.holdCoast then 2 else 0)

end Sys2Proof.Machine
end

