-- ==== Sys2Proof/Machine/Operands.lean ====
section
/-! DEFINITION. How values are carried and limited: clamps (R53, Section 0.5), byte order and two's complement (R167), 12-bit pairs (R170), and the check (R167). -/

namespace Sys2Proof.Machine

/-- Clamp lo..hi (Table 0-3). -/
def clampInt (lo hi x : Int) : Int := if x < lo then lo else if hi < x then hi else x

/-- Clamp lo..hi of a number that is not negative. -/
def clampNat (lo hi x : Nat) : Nat := if x < lo then lo else if hi < x then hi else x

/-- How many values (0 or 1) the clamp lo..hi changes: the "values clamped" of a reply (R53). -/
def clampedInt (lo hi x : Int) : Nat := if x < lo ∨ hi < x then 1 else 0

/-- How many values (0 or 1) the clamp lo..hi changes. -/
def clampedNat (lo hi x : Nat) : Nat := if x < lo ∨ hi < x then 1 else 0

/-- A sum over the three channels. -/
def sumRGB (t : RGB Nat) : Nat := t.r + t.g + t.b

/-- One byte of a payload. -/
def byteOf (n : Nat) : Byte := BitVec.ofNat 8 n

/-- A yes-or-no item: 1 for yes or set, 0 for no or clear (R170). -/
def flagByte (b : Bool) : Byte := if b then 1 else 0

/-- Two bytes, most significant first (R167). -/
def bytesOf16 (w : U16) : List Byte := [w.extractLsb' 8 8, w.extractLsb' 0 8]

/-- A number 0..65535 in two bytes. -/
def natBytes (n : Nat) : List Byte := bytesOf16 (BitVec.ofNat 16 n)

/-- A signed number in two bytes of two's complement (R167). -/
def intBytes (i : Int) : List Byte := bytesOf16 (BitVec.ofInt 16 i)

/-- The number two bytes carry. -/
def word16 (hi lo : Byte) : U16 := hi ++ lo

/-- A 12-bit pair in three bytes: the first number in the upper 12 bits (R170). -/
def pairBytes (a b : BitVec 12) : List Byte :=
  let w : BitVec 24 := a ++ b
  [w.extractLsb' 16 8, w.extractLsb' 8 8, w.extractLsb' 0 8]

/-- The first number of a 12-bit pair. -/
def pairFirst (a b : Byte) : BitVec 12 := (a ++ b : BitVec 16).extractLsb' 4 12

/-- The second number of a 12-bit pair. -/
def pairSecond (b c : Byte) : BitVec 12 := (b ++ c : BitVec 16).extractLsb' 0 12

/-- An item that may be absent: a presence byte, then its bytes, sent as 0 when it is absent (R170). -/
def optionBytes {α : Type} (width : Nat) (f : α → List Byte) : Option α → List Byte
  | some a => 1 :: f a
  | none => 0 :: List.replicate width 0

/-- One bit of the CRC-16 with polynomial 1021h (R167). -/
def crcBit (c : BitVec 16) : BitVec 16 := if c.msb then (c <<< 1) ^^^ 0x1021 else c <<< 1

/-- One byte of the check, most significant bit first. -/
def crcByte (c : BitVec 16) (b : Byte) : BitVec 16 :=
  crcBit (crcBit (crcBit (crcBit (crcBit (crcBit (crcBit (crcBit (c ^^^ (b ++ (0 : Byte))))))))))

/-- The check over the bytes of a cue before it: initial value FFFFh, no final inversion (R167). -/
def crc16 (bs : List Byte) : BitVec 16 := bs.foldl crcByte 0xFFFF

end Sys2Proof.Machine

namespace Sys2Proof

open Machine

/-- A primary part as a grade record holds it, after the clamps of R53. -/
def WirePrimary.stored (p : WirePrimary) : Primary :=
  ⟨clampInt (-512) 511 p.lift.toInt, clampNat 0 4095 p.gain.toNat, p.curve.toNat⟩

/-- How many of the values of one channel the clamps of R53 change. -/
def WirePrimary.clamped (p : WirePrimary) : Nat :=
  clampedInt (-512) 511 p.lift.toInt + clampedNat 0 4095 p.gain.toNat

/-- A rectangle as a vector holds it, after the clamps of R53. -/
def WireRect.stored (q : WireRect) : Rect :=
  ⟨clampNat 0 719 q.x0.toNat, clampNat 0 719 q.x1.toNat,
   clampNat 0 575 q.y0.toNat, clampNat 0 575 q.y1.toNat⟩

/-- How many of the coordinates the clamps of R53 change. -/
def WireRect.clamped (q : WireRect) : Nat :=
  clampedNat 0 719 q.x0.toNat + clampedNat 0 719 q.x1.toNat +
  clampedNat 0 575 q.y0.toNat + clampedNat 0 575 q.y1.toNat

/-- A vector as a grade record holds it, after the clamps of R53. -/
def WireVector.stored (v : WireVector) : Vec :=
  ⟨v.lo.map (fun a => clampNat 0 4095 a.toNat), v.hi.map (fun a => clampNat 0 4095 a.toNat),
   v.offset.map (fun a => clampInt (-1023) 1023 a.toInt), v.rect.map WireRect.stored⟩

/-- How many of the values of a vector the clamps of R53 change. -/
def WireVector.clamped (v : WireVector) : Nat :=
  sumRGB (v.lo.map (fun a => clampedNat 0 4095 a.toNat)) +
  sumRGB (v.hi.map (fun a => clampedNat 0 4095 a.toNat)) +
  sumRGB (v.offset.map (fun a => clampedInt (-1023) 1023 a.toInt)) +
  (match v.rect with | some q => q.clamped | none => 0)

/-- STANDARD 0 for 525 and 1 for 625 (R170). -/
def Standard.code : Standard → Byte
  | .s525 => 0 | .s625 => 1

end Sys2Proof

namespace Sys2Proof.Machine

/-- DONE, or DONE_CLAMPED when a value was clamped (R176). -/
def doneBy (clamped : Nat) : Result := if clamped = 0 then .done else .doneClamped

/-! ## Codes of enumerated items (R170, Tables 10-6 and 10-9) -/

def Result.code : Result → Byte
  | .done => 0 | .doneClamped => 1 | .busy => 2 | .full => 3 | .notFound => 4 | .exists => 5
  | .inUse => 6 | .empty => 7 | .readOnly => 8 | .denied => 9 | .noReel => 10 | .outOfReel => 11
  | .wrongState => 12 | .cancelled => 13

def Transition.code : Transition → Byte
  | .cut => 0 | .dissolve => 1

/-- The transition a byte names: 0 CUT, 1 DISSOLVE, none for any other value (R71). -/
def Transition.ofByte (b : Byte) : Option Transition :=
  if b = 0 then some .cut else if b = 1 then some .dissolve else none

def FilmMode.code : FilmMode → Byte
  | .positive => 0 | .negative => 1

/-- The film mode a byte names (R170). -/
def FilmMode.ofByte (b : Byte) : Option FilmMode :=
  if b = 0 then some .positive else if b = 1 then some .negative else none

def LoaderState.code : LoaderState → Byte
  | .idle => 0 | .filling => 1 | .installPending => 2

/-- The target kind and curve number bytes of LOAD START, curve number 0 for a shading table. -/
def LoadTarget.bytes : LoadTarget → List Byte
  | .curve n => [0, byteOf n] | .shadingH => [1, 0] | .shadingV => [2, 0]

/-- The pointer mode a byte names (Table 10-9). -/
def PointerMode.ofByte (b : Byte) : Option PointerMode :=
  if b = 0 then some .increment else if b = 1 then some .decrement
  else if b = 2 then some .hold else none

/-- Origin, followed by the peer's station number, or 0 for the other origins. -/
def Origin.bytes : Origin → List Byte
  | .console => [0, 0] | .detector => [1, 0] | .peer n => [2, n.setWidth 8]

/-- The role a code names (Table 11-3). -/
def Role.ofCode (b : Byte) : Role :=
  if b = 1 then .transport else if b = 2 then .scanner else if b = 3 then .recorder
  else if b = 4 then .console else if b = 5 then .engine else .other

/-- Role 0 ABSENT, 1 to 5 of Table 11-3, 6 OTHER. -/
def roleCode : Option Role → Byte
  | none => 0 | some .transport => 1 | some .scanner => 2 | some .recorder => 3
  | some .console => 4 | some .engine => 5 | some .other => 6

/-- The kind and the frame or slot of an entry, as an UNDO's reply carries them (Table 5-3). -/
def Entry.bytes : Entry → List Byte
  | .sceneInserted f => 0 :: natBytes f
  | .sceneRemoved r => 1 :: natBytes r.start
  | .sceneChanged r => 2 :: natBytes r.start
  | .primaryChanged n _ => 3 :: natBytes n
  | .vectorsChanged n _ => 4 :: natBytes n

/-- The primary part laid out as in GRADE PRIMARY (Table 10-9). -/
def primaryBytes (p : RGB Primary) : List Byte :=
  p.toList.flatMap (fun c => intBytes c.lift ++ natBytes c.gain ++ [byteOf c.curve])

/-- The box and offsets laid out as bytes 2 to 16 of GRADE VECTOR. -/
def boxBytes (v : Vec) : List Byte :=
  pairBytes (BitVec.ofNat 12 v.lo.r) (BitVec.ofNat 12 v.hi.r) ++
  pairBytes (BitVec.ofNat 12 v.lo.g) (BitVec.ofNat 12 v.hi.g) ++
  pairBytes (BitVec.ofNat 12 v.lo.b) (BitVec.ofNat 12 v.hi.b) ++
  v.offset.toList.flatMap intBytes

/-- The two coordinate pairs laid out as bytes 18 to 23 of GRADE VECTOR. -/
def rectBytes (q : Rect) : List Byte :=
  pairBytes (BitVec.ofNat 12 q.x0) (BitVec.ofNat 12 q.x1) ++
  pairBytes (BitVec.ofNat 12 q.y0) (BitVec.ofNat 12 q.y1)

end Sys2Proof.Machine
end

