-- ==== Sys2Proof/WellFormed.lean ====
section
/-! DEFINITION. What a well-formed command is: its cue has a payload length Table 10-4 permits, and a source that is a station (R168, R171 test 3). The widths of the fields are in their types. -/

namespace Sys2Proof

/-- A source is a station number 0..14 (R167, R171 test 3). -/
def Station.isStation (a : Station) : Bool := a != 15

/-- The parts of a request whose length varies have a length Table 10-4 permits: LOAD DATA holds 1 to 8 values (R35), PORT WRITE 1 to 6 bytes of contents (R168). -/
def Request.wellFormed : Request → Bool
  | .loadData vs => 1 ≤ vs.length && vs.length ≤ 8
  | .portWrite _ d => 1 ≤ d.length && d.length ≤ 6
  | .sceneMark .. | .sceneClear .. | .sceneSet .. | .scenePurge | .sceneQuery .. | .gradeNew
  | .gradePrimary .. | .gradeVector .. | .gradeVectorDelete .. | .gradeDrop .. | .gradeQuery ..
  | .loadStart .. | .loadInstall | .loadCancel | .portRead .. | .undo | .clearFaults ..
  | .cut .. => true

/-- The command can be given: see this file's head. -/
def Instr.wellFormed : Instr → Bool
  | .powerOnReset _ | .lineSync | .fieldSync _ | .missingSyncExpiry | .rollCallWindowEnd
  | .guardComplete _ => true
  | .reel src _ _ => src.isStation
  | .frame src _ _ _ _ _ => src.isStation
  | .present src _ _ => src.isStation
  | .lineReset src => src.isStation
  | .hold src => src.isStation
  | .release src => src.isStation
  | .sceneMark src _ _ _ _ _ => src.isStation
  | .sceneClear src _ _ => src.isStation
  | .sceneSet src _ _ _ _ _ _ => src.isStation
  | .scenePurge src _ => src.isStation
  | .sceneQuery src _ _ _ => src.isStation
  | .gradeNew src _ => src.isStation
  | .gradePrimary src _ _ _ => src.isStation
  | .gradeVector src _ _ _ _ => src.isStation
  | .gradeVectorDelete src _ _ _ => src.isStation
  | .gradeDrop src _ _ => src.isStation
  | .gradeQuery src _ _ _ _ => src.isStation
  | .loadStart src _ _ _ _ _ => src.isStation
  | .loadData src _ vs => src.isStation && (Request.loadData vs).wellFormed
  | .loadInstall src _ => src.isStation
  | .loadCancel src _ => src.isStation
  | .portRead src _ _ => src.isStation
  | .portWriteReportEnables src _ _ => src.isStation
  | .portWriteFilmMode src _ _ => src.isStation
  | .portWriteMatrix src _ _ _ => src.isStation
  | .portWriteCutThreshold src _ _ => src.isStation
  | .portWriteMinScene src _ _ => src.isStation
  | .portWrite src _ p d => src.isStation && (Request.portWrite p d).wellFormed
  | .undo src _ => src.isStation
  | .clearFaults src _ _ => src.isStation
  | .peerCut src _ _ _ _ => src.isStation
  | .transmitStart | .deferralYield | .transmitAbandon | .transmitComplete
  | .pixelClock .. | .resetAsserted => true

end Sys2Proof
end

