-- ==== Sys2Proof/Machine/Ops.lean ====
section
/-! DEFINITION. The operations the commands share: the transmit queue and its contention, raising a latch, references to slots, the edit history, the scene table, the grade contexts, and the service of a request. -/

namespace Sys2Proof.Machine

/-- Every command acts on a running engine alone: while RESET is held nothing is received, transmitted or counted (R154, R186; log 12). -/
def whenRunning (act : State → State) (s : State) : Host.Outcome State Fault Refusal :=
  .next (if s.resetHeld then s else act s)

/-! ## The transmit queue (Section 10.5) -/

/-- The class of a cue the engine sends (Table 10-2). -/
def TxBody.cls : TxBody → Nat
  | .fault .. => 1
  | .reply .. => 2
  | .cut .. => 3
  | .sceneEntered .. => 3
  | .present .. => 4

/-- The class of a queued cue. -/
def TxEntry.cls (e : TxEntry) : Nat := e.cue.body.cls

/-- The cue is a PRESENT. -/
def TxEntry.isPresent (e : TxEntry) : Bool := match e.cue.body with | .present _ => true | _ => false

/-- A cue takes its place after every cue of its class or a lower one, before every cue of a higher class number (R177). -/
def insertTx (e : TxEntry) (q : List TxEntry) : List TxEntry :=
  q.filter (fun x => x.cls ≤ e.cls) ++ e :: q.filter (fun x => e.cls < x.cls)

/-- The later to join of two cues. -/
def younger : Option TxEntry → TxEntry → Option TxEntry
  | none, e => some e
  | some a, e => if a.joined < e.joined then some e else some a

/-- The cue a full queue gives up for one of class `cls`: the youngest of a strictly higher class number, the cue in flight left out (R178). -/
def victim (cls : Nat) (inFlight : Option Nat) (q : List TxEntry) : Option TxEntry :=
  (q.filter (fun x => cls < x.cls && some x.joined != inFlight)).foldl younger none

/-- The deferral of a cue of class `cls`: class × 15 + station number slots (R165). -/
def deferralSlots (cls : Nat) (station : Station) : Nat := cls * 15 + station.toNat

/-- Contention after the queue has changed. A deferral whose cue has left the queue is abandoned. On a line idle beyond a guard the first cue of the queue begins its deferral at once, unless one runs or a cue is in flight (R165); a muted transmitter contends for nothing (R179). -/
def Line.contend (station : Station) (l : Line) : Line :=
  match l.deferral.filter (fun d => l.tx.any (fun e => e.joined == d.joined)) with
  | some _ => l
  | none =>
    if l.idle && !l.mute && l.inFlight.isNone then
      { l with deferral := l.tx.head?.map (fun e => ⟨e.joined, deferralSlots e.cls station⟩) }
    else { l with deferral := none }

/-- A cue joins the queue as youngest of its class. -/
def Line.join (station : Station) (c : TxCue) (l : Line) : Line :=
  Line.contend station
    { l with tx := insertTx ⟨c, l.nextJoin, 0⟩ l.tx, nextJoin := l.nextJoin + 1 }

/-- The queue holds its 8 cues (R177). -/
def Line.txFull (l : Line) : Bool := Config.txPlaces ≤ l.tx.length

/-- A cue is offered to the queue (R178): it joins, or replaces the victim, or is discarded. When it replaces the very cue deferred for, the next to contend (R165) is the queue's first with the new cue in its place and before the FAULT of TX_OVERFLOW is offered (DESIGN CHOICE, log 34). -/
def Line.offered (station : Station) (c : TxCue) (l : Line) : Line :=
  if l.txFull then
    match victim c.body.cls l.inFlight l.tx with
    | some v => Line.join station c { l with tx := l.tx.filter (fun e => e.joined != v.joined) }
    | none => l
  else Line.join station c l

/-- The FAULT cue of a latch that has just been set, with the latches held once that event has been applied (R191; log 33). -/
def faultCue (l : Latch) (held : BitVec 8) : TxCue := ⟨15, .fault l.bit held⟩

/-- A latch goes from clear to set with no offer made: the bit alone (R189). -/
def State.latch (l : Latch) (s : State) : State := { s with latches := s.latches ||| l.bit }

/-- Setting TX_OVERFLOW (R178): when it was clear and its report enable is on, its FAULT meets the same full queue; the loss of that FAULT offers no further FAULT, the latch being held by then. -/
def State.overflow (s : State) : State :=
  if s.held .txOverflow then s
  else
    let s := s.latch .txOverflow
    if s.reports .txOverflow then
      { s with line := s.line.offered s.straps.station (faultCue .txOverflow s.latches) }
    else s

/-- The engine offers a cue to its transmit queue. Muted, it is discarded at once, without TX_OVERFLOW (R179); a queue of 8 sets TX_OVERFLOW whatever it discards (R178). -/
def State.offer (c : TxCue) (s : State) : State :=
  if s.line.mute then s
  else
    let s' := { s with line := s.line.offered s.straps.station c }
    if s.line.txFull then s'.overflow else s'

/-- An event sets a latch (R189, R191): nothing when it is set already; otherwise it is set, and a FAULT is offered when its report enable is on. The latches held that the FAULT carries are fixed before its own offer, so a TX_OVERFLOW that this offer sets at a full queue (R178) is not among them (DESIGN CHOICE, log 33). -/
def State.raise (l : Latch) (s : State) : State :=
  if s.held l then s
  else
    let s := s.latch l
    if s.reports l then s.offer (faultCue l s.latches) else s

/-- The queue is emptied, and with it the contention and the cue being sent (R179, R180). -/
def Line.silence (l : Line) : Line := { l with tx := [], inFlight := none, deferral := none }

/-- The engine's own PRESENT, to all stations (R184). -/
def presentCue (ask : Bool) : TxCue := ⟨15, .present ask⟩

/-! ## Slots and references (R47, R49) -/

/-- The slot of a number, none when it is free or above 127. -/
def Pool.slot (p : Pool) (n : Nat) : Option Slot := p.slots.getD n none

/-- A slot is allocated. -/
def Pool.allocated (p : Pool) (n : Nat) : Bool := (p.slot n).isSome

/-- The grade a slot holds; a free slot has none, and no holder names one (R49). -/
def Pool.grade (p : Pool) (n : Nat) : Grade := match p.slot n with | some r => r.grade | none => Grade.flat

/-- A slot's reference count is changed; slot 0 keeps none (R46). -/
def Pool.recount (f : Nat → Nat) (n : Nat) (p : Pool) : Pool :=
  if n = 0 then p
  else match p.slot n with
    | some r => ⟨p.slots.set n (some { r with refs := f r.refs })⟩
    | none => p

/-- A holder comes to name a slot (R49). -/
def Pool.claim (n : Nat) (p : Pool) : Pool := p.recount (· + 1) n

/-- A holder ceases to name a slot (R49). -/
def Pool.release (n : Nat) (p : Pool) : Pool := p.recount (· - 1) n

/-- A slot's record is written; its reference count stands. -/
def Pool.write (n : Nat) (g : Grade) (p : Pool) : Pool :=
  match p.slot n with
  | some r => ⟨p.slots.set n (some { r with grade := g })⟩
  | none => p

/-- The lowest unmarked slot, or 128 when there is none (R48). -/
def Pool.firstFree (p : Pool) : Nat := (p.slots.findIdx? (·.isNone)).getD Config.poolSlots

/-- Slots 1..127 allocated, 0..127 (R47, port 3). -/
def Pool.count (p : Pool) : Nat := ((p.slots.drop 1).filter (·.isSome)).length

/-! ## The edit history (R84 to R88) -/

/-- The slot an entry names (Table 5-1). -/
def Entry.slot? : Entry → Option Nat
  | .sceneInserted _ => none
  | .sceneRemoved r => some r.slot
  | .sceneChanged r => some r.slot
  | .primaryChanged n _ => some n
  | .vectorsChanged n _ => some n

/-- An entry claims its reference (R86). -/
def Pool.claimEntry (e : Entry) (p : Pool) : Pool := match e.slot? with | some n => p.claim n | none => p

/-- An entry leaves the history and its reference is released (R86). -/
def Pool.releaseEntry (e : Entry) (p : Pool) : Pool := match e.slot? with | some n => p.release n | none => p

/-- Step 1 of a push: at 16 entries the oldest is discarded, its reference released, and the complete flag cleared (R87). -/
def State.discardOldest (s : State) : State :=
  match s.history.entries with
  | e :: rest =>
    if Config.historyPlaces ≤ s.history.entries.length then
      { s with history := ⟨rest, false⟩, pool := s.pool.releaseEntry e }
    else s
  | [] => s

/-- One entry is pushed (R87). -/
def State.push (e : Entry) (s : State) : State :=
  let s := s.discardOldest
  { s with
    history := { s.history with entries := s.history.entries ++ [e] }
    pool := s.pool.claimEntry e }

/-! ## The scene table (R63 to R68) -/

/-- The scene of a frame: the record with the greatest start frame at or below it (R67). -/
def sceneOf (t : List Scene) (f : Nat) : Scene :=
  ((t.filter (fun r => r.start ≤ f)).getLast?).getD Scene.head

/-- The record that starts at a frame. -/
def sceneAt (t : List Scene) (f : Nat) : Option Scene := t.find? (fun r => r.start == f)

/-- The position of a start frame in the table (R64). -/
def positionOf (t : List Scene) (f : Nat) : Nat := (t.filter (fun r => r.start < f)).length

/-- A record takes its place in start-frame order (R64). -/
def insertScene (r : Scene) (t : List Scene) : List Scene :=
  t.filter (fun x => x.start < r.start) ++ r :: t.filter (fun x => r.start < x.start)

/-- The record that starts at a frame is removed and the later ones close up (R64). -/
def removeScene (f : Nat) (t : List Scene) : List Scene := t.filter (fun x => x.start != f)

/-- The record that starts at the new record's frame is replaced by it, in its place. -/
def replaceScene (r : Scene) (t : List Scene) : List Scene :=
  t.map (fun x => if x.start = r.start then r else x)

/-- The table holds its 256 records (R64). -/
def scenesFull (t : List Scene) : Bool := Config.scenePlaces ≤ t.length

/-- A new record is inserted after its SCENE_INSERTED entry is pushed, and claims its slot (R73, R81). -/
def State.insertRecord (r : Scene) (s : State) : State :=
  let s := s.push (.sceneInserted r.start)
  { s with scenes := insertScene r s.scenes, pool := s.pool.claim r.slot }

/-- A cut proposal of the detector or a peer reaches the table (R81). -/
def State.propose (f : Nat) (origin : Origin) (s : State) : State :=
  if (sceneAt s.scenes f).isSome then s
  else if scenesFull s.scenes then s.raise .tableFull
  else s.insertRecord ⟨f, (sceneOf s.scenes f).slot, .cut, 1, origin, false⟩

/-! ## Grade contexts (R58, R119) -/

/-- A context's refresh mark is set when it names the written slot (R58). -/
def Context.markIf (n : Nat) (c : Context) : Context := if c.slot = n then { c with mark := true } else c

/-- Every context that names a written slot is marked for refresh; an empty INCOMING is not (R58). -/
def Controller.markSlot (n : Nat) (c : Controller) : Controller :=
  { c with current := c.current.markIf n, incoming := c.incoming.map (Context.markIf n) }

/-- A slot is written, and the contexts naming it are marked (R58). -/
def State.writeSlot (n : Nat) (g : Grade) (s : State) : State :=
  { s with pool := s.pool.write n g, controller := s.controller.markSlot n }

/-- A running dissolve completes: CURRENT takes INCOMING's slot, copy, mark and reference, and releases its own (R123, R121). -/
def State.completeDissolve (s : State) : State :=
  match s.controller.incoming with
  | some c =>
    { s with
      pool := s.pool.release s.controller.current.slot
      controller := { s.controller with current := c, incoming := none, length := 0, count := 0 } }
  | none => s

/-! ## The service of a request (Section 10.4) -/

/-- What an owner answers: the result and reply data, or none when the reply is queued later (R175). -/
abbrev Answer := Option (Result × List Byte)

/-- A refusal: a result with no reply data (R175, R176). -/
def refuse (r : Result) : Answer := some (r, [])

/-- The kind code of a cue of the FIFO (Table 10-4). -/
def requestKind : Request → Byte
  | .sceneMark .. => 0x10 | .sceneClear .. => 0x11 | .sceneSet .. => 0x12 | .scenePurge => 0x13
  | .sceneQuery .. => 0x14 | .gradeNew => 0x18 | .gradePrimary .. => 0x19 | .gradeVector .. => 0x1A
  | .gradeVectorDelete .. => 0x1B | .gradeDrop .. => 0x1C | .gradeQuery .. => 0x1D
  | .loadStart .. => 0x20 | .loadData .. => 0x21 | .loadInstall => 0x22 | .loadCancel => 0x23
  | .portRead .. => 0x28 | .portWrite .. => 0x29 | .undo => 0x2A | .clearFaults .. => 0x2B
  | .cut .. => 0x30

/-- The one REPLY a request draws, unless it was addressed to station 15 (R175). -/
def State.reply (c : Cue) (a : Answer) (s : State) : State :=
  match a with
  | none => s
  | some (r, data) =>
    if c.dst = 15 then s else s.offer ⟨c.src, .reply (requestKind c.body) r data⟩

/-- The handler's own tests, then the owner (R174): WRONG_STATE in ROLLCALL, DENIED to a source that is no CONSOLE. The owner's changes and reply data come first, then the offer of the reply, where the two are one moment (DESIGN CHOICE, logs 35 and 36). -/
def handle (c : Cue) (owner : State → State × Answer) (s : State) : State :=
  if s.engineState = .rollcall then s.reply c (refuse .wrongState)
  else if s.role c.src ≠ some .console then s.reply c (refuse .denied)
  else
    let (s', a) := owner s
    s'.reply c a

/-- A line reset, obeyed from a CONSOLE (R188, Table 11-4): the roster keeps the own entry alone, the FIFO and the queue are emptied, the latches cleared (R189), the loader idle (R42), the follower cleared but for reel and field count (R116), the window started afresh (R185) and black forced (R23); then the own PRESENT without ask is offered. -/
def State.takeLineReset (src : Station) (s : State) : State :=
  if s.role src ≠ some .console then s
  else
    State.offer (presentCue false)
      { s with
        roster := ownRoster s.straps.station
        line := { s.line.silence with fifo := [] }
        latches := 0
        loader := Loader.idle
        follower := { s.follower with
          schedule := [], current := none, coast := 0, holdConsole := false, holdCoast := false }
        rollCall := some Config.rollCallClocks
        forcedBlack := true }

/-- The LINE RESETs that waited for the service are taken when it ends, in their order of arrival (R172). -/
def State.takeWaiting (s : State) : State :=
  s.line.lineResets.foldl (fun s a => s.takeLineReset a)
    { s with line := { s.line with lineResets := [] } }

/-- The receiver would have let the cue into the FIFO: its source is another station, its destination this engine or all (R171 tests 2 to 4), its length permitted (R168). -/
def admissible (own : Station) (c : Cue) : Bool :=
  c.src != own && c.src != 15 && (c.dst == own || c.dst == 15) && c.body.wellFormed

/-- The service of a cue ends: all its changes and its reply are made together, it leaves the FIFO (R173, R174), and the LINE RESETs that waited for it are taken (R172). The cue is the FIFO's head, or has just come to an empty FIFO; otherwise another cue is in service and this one's service cannot end (log 1). -/
def serve (c : Cue) (act : State → State) (s : State) : State :=
  match s.line.fifo with
  | [] => if admissible s.straps.station c then act s else s
  | h :: rest =>
    if h = c then State.takeWaiting (act { s with line := { s.line with fifo := rest } }) else s

/-- The service of a request, on a running engine. -/
def serveRequest (c : Cue) (owner : State → State × Answer) (s : State) :
    Host.Outcome State Fault Refusal :=
  whenRunning (serve c (handle c owner)) s

end Sys2Proof.Machine
end

