-- ==== Sys2Proof/Machine/CueFormat.lean ====
section
/-! DEFINITION. The cue format (Section 10.2): frames into cues, and cues into the bytes of a frame (Tables 10-3, 10-4, 10-5, 10-9). -/

namespace Sys2Proof.Machine

/-- What a received cue of a kind the engine acts on asks of it (R172). -/
inductive Arrival where
  | reel (id len : U16)
  | frame (index : U16) (dir : Direction) (speed : Speed) (lead span : BitVec 2)
  | present (role ask : Byte)
  | lineReset
  | hold
  | release
  /-- A request or a CUT: it goes through the receive FIFO. -/
  | queued (r : Request)
deriving DecidableEq, Repr

/-- Whether Table 10-4 permits a payload length for a kind; none for a kind not in the table (R168). -/
def permittedLength (kind : Byte) (n : Nat) : Option Bool :=
  match kind.toNat with
  | 0x01 => some (n == 4)
  | 0x02 => some (n == 3)
  | 0x08 => some (n == 0)
  | 0x09 => some (n == 0)
  | 0x0A => some (n == 0)
  | 0x0B => some (n == 2)
  | 0x10 => some (n == 5)
  | 0x11 => some (n == 2)
  | 0x12 => some (n == 6)
  | 0x13 => some (n == 0)
  | 0x14 => some (n == 3)
  | 0x18 => some (n == 0)
  | 0x19 => some (n == 16)
  | 0x1A => some (n == 18 || n == 24)
  | 0x1B => some (n == 2)
  | 0x1C => some (n == 1)
  | 0x1D => some (n == 3)
  | 0x20 => some (n == 5)
  | 0x21 => some (2 ≤ n && n ≤ 16 && n % 2 == 0)
  | 0x22 => some (n == 0)
  | 0x23 => some (n == 0)
  | 0x28 => some (n == 1)
  | 0x29 => some (2 ≤ n && n ≤ 7)
  | 0x2A => some (n == 0)
  | 0x2B => some (n == 1)
  | 0x2F => some (2 ≤ n && n ≤ 24)
  | 0x30 => some (n == 6)
  | 0x31 => some (n == 11)
  | 0x38 => some (n == 2)
  | _ => none

/-- Direction 0 FWD, 1 REV (R169). -/
def directionOf (b : BitVec 1) : Direction := if b = 0 then .fwd else .rev

def directionCode : Direction → BitVec 1
  | .fwd => 0 | .rev => 1

/-- Speed 0, 1, 2 and 3 are PLAY, VARI, SHUTTLE and STILL (R169). -/
def speedOf (b : BitVec 2) : Speed :=
  if b = 0 then .play else if b = 1 then .vari else if b = 2 then .shuttle else .still

def speedCode : Speed → BitVec 2
  | .play => 0 | .vari => 1 | .shuttle => 2 | .still => 3

/-- The flags byte of FRAME: bit 7 direction, 6..5 speed, 4..3 lead, 2..1 span, bit 0 unused (Table 10-5). -/
def flagsByte (dir : Direction) (speed : Speed) (lead span : BitVec 2) : Byte :=
  directionCode dir ++ speedCode speed ++ lead ++ span ++ 0#1

/-- The values of LOAD DATA, two bytes each. -/
def wordsOf : List Byte → List U16
  | a :: b :: rest => word16 a b :: wordsOf rest
  | _ => []

/-- One channel of GRADE PRIMARY: lift, gain, curve index. -/
def wirePrimary (a b c d e : Byte) : WirePrimary := ⟨word16 a b, word16 c d, e⟩

/-- The box and offsets of GRADE VECTOR: bytes 2 to 16 (Table 10-9). -/
def wireVector (r0 r1 r2 g0 g1 g2 b0 b1 b2 oR0 oR1 oG0 oG1 oB0 oB1 : Byte)
    (rect : Option WireRect) : WireVector :=
  ⟨⟨pairFirst r0 r1, pairFirst g0 g1, pairFirst b0 b1⟩,
   ⟨pairSecond r1 r2, pairSecond g1 g2, pairSecond b1 b2⟩,
   ⟨word16 oR0 oR1, word16 oG0 oG1, word16 oB0 oB1⟩, rect⟩

/-- The coordinates of GRADE VECTOR: bytes 18 to 23. -/
def wireRect (x0 x1 x2 y0 y1 y2 : Byte) : WireRect :=
  ⟨pairFirst x0 x1, pairSecond x1 x2, pairFirst y0 y1, pairSecond y1 y2⟩

/-- The request a kind and payload spell (Table 10-9). In GRADE VECTOR the length decides whether the rectangle is present, and byte 17 is disregarded. -/
def requestOf (kind : Nat) (p : List Byte) : Option Request :=
  match kind, p with
  | 0x10, [a, b, g, t, n] => some (.sceneMark (word16 a b) g t n)
  | 0x11, [a, b] => some (.sceneClear (word16 a b))
  | 0x12, [a, b, g, t, n, c] => some (.sceneSet (word16 a b) g t n c)
  | 0x13, [] => some .scenePurge
  | 0x14, [m, a, b] => some (.sceneQuery m (word16 a b))
  | 0x18, [] => some .gradeNew
  | 0x19, [n, r0, r1, r2, r3, r4, g0, g1, g2, g3, g4, b0, b1, b2, b3, b4] =>
    some (.gradePrimary n ⟨wirePrimary r0 r1 r2 r3 r4, wirePrimary g0 g1 g2 g3 g4,
      wirePrimary b0 b1 b2 b3 b4⟩)
  | 0x1A, [n, k, r0, r1, r2, g0, g1, g2, b0, b1, b2, o0, o1, o2, o3, o4, o5, _] =>
    some (.gradeVector n k (wireVector r0 r1 r2 g0 g1 g2 b0 b1 b2 o0 o1 o2 o3 o4 o5 none))
  | 0x1A, [n, k, r0, r1, r2, g0, g1, g2, b0, b1, b2, o0, o1, o2, o3, o4, o5, _,
      x0, x1, x2, y0, y1, y2] =>
    some (.gradeVector n k (wireVector r0 r1 r2 g0 g1 g2 b0 b1 b2 o0 o1 o2 o3 o4 o5
      (some (wireRect x0 x1 x2 y0 y1 y2))))
  | 0x1B, [n, k] => some (.gradeVectorDelete n k)
  | 0x1C, [n] => some (.gradeDrop n)
  | 0x1D, [n, t, k] => some (.gradeQuery n t k)
  | 0x20, [t, n, a, b, m] => some (.loadStart t n (word16 a b) m)
  | 0x21, p => some (.loadData (wordsOf p))
  | 0x22, [] => some .loadInstall
  | 0x23, [] => some .loadCancel
  | 0x28, [n] => some (.portRead n)
  | 0x29, n :: d => some (.portWrite n d)
  | 0x2A, [] => some .undo
  | 0x2B, [m] => some (.clearFaults m)
  | 0x30, [a, b, c, d, e, f] => some (.cut (word16 a b) (word16 c d) (word16 e f))
  | _, _ => none

/-- The cue of a kind the engine acts on; none for REPLY, FAULT, SCENE ENTERED and unknown kinds (R171 test 5). -/
def arrivalOf (kind : Byte) (p : List Byte) : Option Arrival :=
  match kind.toNat, p with
  | 0x01, [a, b, c, d] => some (.reel (word16 a b) (word16 c d))
  | 0x02, [a, b, f] =>
    some (.frame (word16 a b) (directionOf (f.extractLsb' 7 1)) (speedOf (f.extractLsb' 5 2))
      (f.extractLsb' 3 2) (f.extractLsb' 1 2))
  | 0x08, [] => some .lineReset
  | 0x09, [] => some .hold
  | 0x0A, [] => some .release
  | 0x38, [r, a] => some (.present r a)
  | k, p => (requestOf k p).map .queued

/-! ## Bytes of a cue -/

/-- The bytes before the check: kind, destination and source, length, payload (Table 10-3). -/
def cueBody (kind : Byte) (dst src : Station) (payload : List Byte) : List Byte :=
  [kind, dst ++ src, byteOf payload.length] ++ payload

/-- A whole cue: the check follows, most significant byte first (R167). -/
def cueBytes (kind : Byte) (dst src : Station) (payload : List Byte) : List Byte :=
  cueBody kind dst src payload ++ bytesOf16 (crc16 (cueBody kind dst src payload))

/-- Bytes 2 to 16 of GRADE VECTOR. -/
def wireBoxBytes (v : WireVector) : List Byte :=
  pairBytes v.lo.r v.hi.r ++ pairBytes v.lo.g v.hi.g ++ pairBytes v.lo.b v.hi.b ++
  bytesOf16 v.offset.r ++ bytesOf16 v.offset.g ++ bytesOf16 v.offset.b

/-- The rectangle-present field and the coordinates of GRADE VECTOR: bytes 17 to 23. -/
def wireRectBytes : Option WireRect → List Byte
  | none => [0]
  | some q => 1 :: (pairBytes q.x0 q.x1 ++ pairBytes q.y0 q.y1)

/-- One channel of GRADE PRIMARY. -/
def wirePrimaryBytes (p : WirePrimary) : List Byte := bytesOf16 p.lift ++ bytesOf16 p.gain ++ [p.curve]

/-- The payload of a cue of the FIFO (Table 10-9). -/
def requestPayload : Request → List Byte
  | .sceneMark f g t n => bytesOf16 f ++ [g, t, n]
  | .sceneClear f => bytesOf16 f
  | .sceneSet f g t n c => bytesOf16 f ++ [g, t, n, c]
  | .scenePurge => []
  | .sceneQuery m a => m :: bytesOf16 a
  | .gradeNew => []
  | .gradePrimary n p =>
    n :: (wirePrimaryBytes p.r ++ wirePrimaryBytes p.g ++ wirePrimaryBytes p.b)
  | .gradeVector n k v => n :: k :: (wireBoxBytes v ++ wireRectBytes v.rect)
  | .gradeVectorDelete n k => [n, k]
  | .gradeDrop n => [n]
  | .gradeQuery n t k => [n, t, k]
  | .loadStart t n a m => [t, n] ++ bytesOf16 a ++ [m]
  | .loadData vs => vs.flatMap bytesOf16
  | .loadInstall => []
  | .loadCancel => []
  | .portRead n => [n]
  | .portWrite n d => n :: d
  | .undo => []
  | .clearFaults m => [m]
  | .cut r f m => bytesOf16 r ++ bytesOf16 f ++ bytesOf16 m

/-- The kind code of a cue the engine acts on (Table 10-4). -/
def arrivalKind : Arrival → Byte
  | .reel .. => 0x01 | .frame .. => 0x02 | .lineReset => 0x08 | .hold => 0x09 | .release => 0x0A
  | .present .. => 0x38 | .queued r => requestKind r

/-- The payload of a cue the engine acts on (Tables 10-5, 10-9). -/
def arrivalPayload : Arrival → List Byte
  | .reel id len => bytesOf16 id ++ bytesOf16 len
  | .frame n d v l k => bytesOf16 n ++ [flagsByte d v l k]
  | .lineReset => []
  | .hold => []
  | .release => []
  | .present r a => [r, a]
  | .queued r => requestPayload r

/-- The frame another station puts on the line to send a cue. -/
def frameOf (src dst : Station) (a : Arrival) : Frame :=
  ⟨false, cueBytes (arrivalKind a) dst src (arrivalPayload a)⟩

/-- The kind code of a cue the engine sends (Table 10-4). -/
def txKind : TxBody → Byte
  | .reply .. => 0x2F | .fault .. => 0x0B | .cut .. => 0x30 | .sceneEntered .. => 0x31
  | .present _ => 0x38

/-- The payload of a cue the engine sends (Table 10-9). -/
def txPayload : TxBody → List Byte
  | .reply k r data => [k, r.code] ++ data
  | .fault newly held => [newly, held]
  | .cut r f m => natBytes r ++ natBytes f ++ natBytes m
  | .sceneEntered r st f n made len field =>
    natBytes r ++ natBytes st ++ natBytes f ++ [byteOf n, made.code, byteOf len] ++ natBytes field
  | .present ask => [5, flagByte ask]

/-- The bytes the engine drives while it sends a queued cue, its own number as source (R179). -/
def State.cueOnLine (s : State) (e : TxEntry) : List Byte :=
  cueBytes (txKind e.cue.body) e.cue.dst s.straps.station (txPayload e.cue.body)

/-- The bytes of the cue in flight. -/
def State.onLine (s : State) : Option (List Byte) :=
  match s.line.inFlight with
  | some j => (s.line.tx.find? (fun e => e.joined == j)).map s.cueOnLine
  | none => none

end Sys2Proof.Machine
end

