-- ==== Sys2Proof/Machine/Follower.lean ====
section
/-! DEFINITION. Frame following (Chapter 6): REEL, FRAME, HOLD and RELEASE, and the frame follower's work at a field boundary and at a loss of lock. -/

namespace Sys2Proof.Machine

/-! ## REEL -/

/-- A reel change (R98, Table 6-2): the reel's state in every block returns to its starting value (R51, R68, R93, R122, R134, Table 8-1). -/
def State.changeReel (r : Reel) (s : State) : State :=
  { s with
    follower := { s.follower with
      reel := some r, schedule := [], current := none, coast := 0, holdCoast := false }
    scenes := [Scene.head]
    pool := Pool.initial
    history := ⟨[], true⟩
    controller := { s.controller with
      current := { s.controller.current with slot := 0, mark := true }
      incoming := none, sceneStart := 0, length := 0, count := 0 }
    detector := { s.detector with capture := none, reference := none } }

/-- A re-thread (R99). -/
def State.rethread (s : State) : State :=
  { s with follower := { s.follower with schedule := [], current := none } }

/-- A REEL cue at its arrival (R97). -/
def State.takeReel (src : Station) (id len : Nat) (s : State) : State :=
  if s.authority ≠ some src.toNat then s
  else if len = 0 then s.raise .timing
  else if s.follower.reel = some ⟨id, len⟩ then s.rethread
  else s.changeReel ⟨id, len⟩

/-- REEL. -/
def execReel (src : Station) (id len : U16) (s : State) : Host.Outcome State Fault Refusal :=
  whenRunning (State.takeReel src id.toNat len.toNat) s

/-! ## FRAME -/

/-- The distance of a field number from the present count, modulo 65536 (R101). -/
def fieldDistance (count f : Nat) : Nat := (f + 65536 - count) % 65536

/-- The lead after its correction (R102). -/
def correctedLead (lead : Nat) : Nat := if lead = 0 then 1 else lead

/-- The span after its correction: disregarded with STILL, and at least 1 (R102). -/
def correctedSpan (speed : Speed) (span : Nat) : Nat :=
  if speed = .still then 1 else if span = 0 then 1 else span

/-- A frame enters the schedule: every entry at or after its first field is removed, and it is appended as the last (R104). -/
def enterSchedule (count : Nat) (e : Announced) (q : List Announced) : List Announced :=
  q.filter (fun x => fieldDistance count x.first < fieldDistance count e.first) ++ [e]

/-- A FRAME cue at its arrival (R102, R103, R104). -/
def State.takeFrame (src : Station) (frame : Nat) (dir : Direction) (speed : Speed)
    (lead span : Nat) (s : State) : State :=
  if s.authority ≠ some src.toNat then s
  else if s.engineState = .rollcall ∨ s.engineState = .unsync then s
  else match s.follower.reel with
    | none => s.raise .timing
    | some r =>
      if r.length ≤ frame then s.raise .timing
      else
        let e : Announced := ⟨frame, dir, speed, correctedSpan speed span,
          (s.follower.fieldCount + correctedLead lead) % 65536⟩
        { s with follower := { s.follower with
          schedule := enterSchedule s.follower.fieldCount e s.follower.schedule } }

/-- FRAME. -/
def execFrame (src : Station) (index : U16) (dir : Direction) (speed : Speed) (lead span : BitVec 2)
    (s : State) : Host.Outcome State Fault Refusal :=
  whenRunning (State.takeFrame src index.toNat dir speed lead.toNat span.toNat) s

/-! ## HOLD and RELEASE -/

/-- The CONSOLE hold cause is set or removed at the word of a console; any other station is ignored (R113). -/
def State.takeHold (present : Bool) (src : Station) (s : State) : State :=
  if s.role src = some .console then
    { s with follower := { s.follower with holdConsole := present } }
  else s

/-- HOLD. -/
def execHold (src : Station) (s : State) : Host.Outcome State Fault Refusal :=
  whenRunning (State.takeHold true src) s

/-- RELEASE. -/
def execRelease (src : Station) (s : State) : Host.Outcome State Fault Refusal :=
  whenRunning (State.takeHold false src) s

/-! ## The work at a field boundary -/

/-- The field count advances (R101). -/
def Follower.advance (f : Follower) : Follower := { f with fieldCount := (f.fieldCount + 1) % 65536 }

/-- The entry that becomes current: the schedule's head, when its first field is the present count (R108). -/
def Follower.due (f : Follower) : Option Announced :=
  match f.schedule with
  | e :: _ => if e.first = f.fieldCount then some e else none
  | [] => none

/-- An entry becomes current (R108). -/
def Follower.arrive (e : Announced) (f : Follower) : Follower :=
  { f with
    schedule := f.schedule.tail
    current := some ⟨e.frame, e.dir, e.speed, e.span, 1⟩
    coast := 0
    holdCoast := false }

/-- The frame that would come next, when it lies within the reel (R110). -/
def nextFrame (reel : Option Reel) (c : CurrentFrame) : Option Nat :=
  match c.dir, reel with
  | .fwd, some r => if c.frame + 1 < r.length then some (c.frame + 1) else none
  | .rev, some _ => if c.frame = 0 then none else some (c.frame - 1)
  | _, none => none

/-- The pulldown alternation (R110). -/
def alternateSpan (n : Nat) : Nat := if n = 2 then 3 else if n = 3 then 2 else n

/-- The span is used up and no successor is announced: the engine coasts (R110), or holds the frame and adds the COAST cause (R111). -/
def Follower.coastOn (c : CurrentFrame) (f : Follower) : Follower :=
  match nextFrame f.reel c with
  | some n =>
    if f.coast < Config.coastLimit then
      { f with coast := f.coast + 1, current := some ⟨n, c.dir, c.speed, alternateSpan c.span, 1⟩ }
    else { f with holdCoast := true }
  | none => { f with holdCoast := true }

/-- The current frame is settled at a boundary at which no entry becomes current (R109). -/
def Follower.carryOn (f : Follower) : Follower :=
  match f.current with
  | none => f
  | some c =>
    if c.speed = .still then f
    else if c.shown < c.span then { f with current := some { c with shown := c.shown + 1 } }
    else f.coastOn c

/-- The current frame is settled, after the count has advanced (R108, R109). -/
def Follower.settle (f : Follower) : Follower :=
  match f.due with
  | some e => f.arrive e
  | none => f.carryOn

/-- The frame follower's work at a field boundary. COAST_HOLD is set when the COAST cause goes from absent to present (R114). -/
def State.followBoundary (s : State) : State :=
  let f := s.follower.advance.settle
  let s' := { s with follower := f }
  if f.holdCoast && !s.follower.holdCoast then s'.raise .coastHold else s'

/-- An arrival is reported at this boundary (R112): an entry becomes current once the count has advanced. -/
def State.arrives (s : State) : Bool := s.follower.advance.due.isSome

/-- The frame follower at a loss of lock (R115). -/
def Follower.loseLock (f : Follower) : Follower :=
  { f with schedule := [], current := none, coast := 0, holdCoast := false }

end Sys2Proof.Machine
end

