-- ==== Sys2Proof/Machine/Roster.lean ====
section
/-! DEFINITION. The station roster and start-up (Chapter 11): PRESENT, LINE_RESET, POWER_ON_RESET and RESET_ASSERTED. -/

namespace Sys2Proof.Machine

/-- An own PRESENT is queued, the one in flight included (R184). -/
def Line.presentQueued (l : Line) : Bool := l.tx.any TxEntry.isPresent

/-- The answer to an ask (R184): the own PRESENT without ask, unless a PRESENT is already queued. -/
def State.answerAsk (s : State) : State :=
  if s.line.presentQueued then s else s.offer (presentCue false)

/-- A PRESENT cue at its arrival (R183, R184). One from the engine's own number or from 15 never reaches the roster (R171 tests 2 and 3; log 28). -/
def State.takePresent (src : Station) (role ask : Byte) (s : State) : State :=
  if src = s.straps.station ∨ src = 15 then s
  else
    let s := { s with roster := s.roster.set src.toNat (some (Role.ofCode role)) }
    if ask = 0 then s else s.answerAsk

/-- PRESENT. -/
def execPresent (src : Station) (role ask : Byte) (s : State) : Host.Outcome State Fault Refusal :=
  whenRunning (State.takePresent src role ask) s

/-- A LINE RESET cue arrives (R172, R188): taken at once, or when the running service ends. A service runs whenever the FIFO is not empty (log 2). -/
def State.lineResetArrives (src : Station) (s : State) : State :=
  if s.line.fifo.isEmpty then s.takeLineReset src
  else { s with line := { s.line with lineResets := s.line.lineResets ++ [src] } }

/-- LINE_RESET. -/
def execLineReset (src : Station) (s : State) : Host.Outcome State Fault Refusal :=
  whenRunning (State.lineResetArrives src) s

/-- POWER_ON_RESET (R186): every block begins with its power-on values, whatever it held. The commands still waiting and the count of free choices are the model's own and stay. -/
def execPowerOnReset (straps : Straps) (s : State) : Host.Outcome State Fault Refusal :=
  .next { State.powerOn straps with freeCount := s.freeCount, pending := s.pending }

/-- RESET_ASSERTED (R154, R43, R186): the engine's state is lost, and what stands for it while RESET is held is the power-on values, which nothing can observe (log 12). The output is code 64 with no sync, and ATTN is released (R191). -/
def execResetAsserted (s : State) : Host.Outcome State Fault Refusal :=
  .next { State.cold s.straps with
    resetHeld := true, freeCount := s.freeCount, pending := s.pending }

end Sys2Proof.Machine
end

