-- ==== Sys2Proof/Machine/CueLine.lean ====
section
/-! DEFINITION. The cue line interface (Chapter 10): GUARD_COMPLETE with the receiver's tests, and the transmitter's commands. -/

namespace Sys2Proof.Machine

/-! ## Receiving (Section 10.3) -/

/-- The parts of a frame that is long enough to have them: kind, destination and source, length, payload and check. -/
structure Parts where
  kind : Byte
  address : Byte
  length : Byte
  payload : List Byte
  check : List Byte
deriving DecidableEq, Repr

/-- A frame of at least 5 bytes taken apart (Table 10-3). -/
def partsOf (bs : List Byte) : Option Parts :=
  match bs with
  | k :: a :: n :: rest =>
    if 2 ≤ rest.length then
      some ⟨k, a, n, rest.take (rest.length - 2), rest.drop (rest.length - 2)⟩
    else none
  | _ => none

/-- The destination of a cue. -/
def Parts.dst (p : Parts) : Station := p.address.extractLsb' 4 4

/-- The source of a cue. -/
def Parts.src (p : Parts) : Station := p.address.extractLsb' 0 4

/-- Test 1 of R171 passes: the length is right and at most 24, the check matches, the upper kind bits are 0, and a known kind has a permitted length. -/
def Parts.sound (p : Parts) : Bool :=
  p.length.toNat ≤ 24 && p.length.toNat == p.payload.length &&
  p.check == bytesOf16 (crc16 ([p.kind, p.address, p.length] ++ p.payload)) &&
  p.kind.toNat < 64 && permittedLength p.kind p.payload.length != some false

/-- A cue joins the receive FIFO, or is discarded with RX_OVERRUN when the FIFO holds 4 (R173). -/
def State.enqueueRx (c : Cue) (s : State) : State :=
  if Config.fifoPlaces ≤ s.line.fifo.length then s.raise .rxOverrun
  else { s with line := { s.line with fifo := s.line.fifo ++ [c] } }

/-- A received cue is taken at its arrival, or placed in the FIFO (R172). -/
def State.takeArrival (src dst : Station) (a : Arrival) (s : State) : State :=
  match a with
  | .reel id len => s.takeReel src id.toNat len.toNat
  | .frame n d v l k => s.takeFrame src n.toNat d v l.toNat k.toNat
  | .present r ask => s.takePresent src r ask
  | .lineReset => s.lineResetArrives src
  | .hold => s.takeHold true src
  | .release => s.takeHold false src
  | .queued r => s.enqueueRx ⟨src, dst, r⟩

/-- The mute is set: the queue is emptied and contention abandoned (R179). -/
def State.muted (s : State) : State := { s with line := { s.line.silence with mute := true } }

/-- A frame with the engine's own number as source, not sent whole by it (R171 test 2, R187): ADDRESS is set and the transmitter muted. On a full queue the two orders differ in TX_OVERFLOW: a free choice (log 8). -/
def State.duplicateFound (s : State) : State :=
  if s.line.txFull && !s.line.mute && !s.held .address && s.reports .address then
    let s' := { s with freeCount := s.freeCount + 1 }
    if Config.addressFaultFirst s.freeCount then (s'.raise .address).muted
    else s'.muted.raise .address
  else s.muted.raise .address

/-- The receiver's tests on a frame heard from another station, in the order of R171. -/
def State.receive (f : Frame) (s : State) : State :=
  match (if f.framingError then none else partsOf f.bytes) with
  | none => s.raise .lineCheck
  | some p =>
    if !p.sound then s.raise .lineCheck
    else if p.src = s.straps.station then s.duplicateFound
    else if p.src = 15 then s
    else if p.dst ≠ s.straps.station ∧ p.dst ≠ 15 then s
    else match arrivalOf p.kind p.payload with
      | some a => s.takeArrival p.src p.dst a
      | none => s

/-- Contention begins at a guard (R165). The cue chosen is the first of the queue; when the arriving cue has put another one first, the deferral may have begun with the former first: a free choice (log 6). -/
def State.contendAtGuard (formerFirst : Option TxEntry) (s : State) : State :=
  let l := Line.contend s.straps.station { s.line with idle := true, deferral := none }
  match formerFirst with
  | some e =>
    if l.deferral.isSome && l.tx.any (fun x => x.joined == e.joined)
        && l.tx.head?.map (·.joined) != some e.joined then
      { s with
        freeCount := s.freeCount + 1
        line := if Config.deferralFirst s.freeCount then
          { l with deferral := some ⟨e.joined, deferralSlots e.cls s.straps.station⟩ } else l }
    else { s with line := l }
  | none => { s with line := l }

/-- The frame is the cue this engine has just sent whole itself, byte for byte (R171 test 2); its own receiver does not take it (R166). Own bytes with more after them are another frame (log 4). -/
def State.isOwnCue (f : Frame) (s : State) : Bool :=
  !f.framingError && s.line.sentWhole == some f.bytes

/-- A guard completes (R164, R171, R165). The frame before it is received, unless it is the engine's own; then the engine contends. A guard cannot complete while the engine's own cue is on the line (log 4). -/
def State.guardComplete (heard : Option Frame) (s : State) : State :=
  if s.line.inFlight.isSome then s
  else
    let s0 := { s with line := { s.line with idle := false, deferral := none, sentWhole := none } }
    let s1 := match heard with
      | some f => if s.isOwnCue f then s0 else s0.receive f
      | none => s0
    s1.contendAtGuard s.line.tx.head?

/-- GUARD_COMPLETE. -/
def execGuardComplete (heard : Option Frame) (s : State) : Host.Outcome State Fault Refusal :=
  whenRunning (State.guardComplete heard) s

/-! ## Transmitting (Section 10.1) -/

/-- The deferral ends on an idle line: the chosen cue is started (R165). -/
def State.transmitStart (s : State) : State :=
  match s.line.deferral with
  | some d => { s with line := { s.line with
      inFlight := some d.joined, deferral := none, idle := false, sentWhole := none } }
  | none => s

/-- TRANSMIT_START. -/
def execTransmitStart (s : State) : Host.Outcome State Fault Refusal :=
  whenRunning State.transmitStart s

/-- DEFERRAL_YIELD: a start bit of another station is heard; the line is idle no more, and a deferral is given up (R165). -/
def execDeferralYield (s : State) : Host.Outcome State Fault Refusal :=
  whenRunning (fun s => { s with line := { s.line with idle := false, deferral := none } }) s

/-- One more abandoned attempt (R166). -/
def bumpAttempts (j : Nat) (q : List TxEntry) : List TxEntry :=
  q.map (fun e => if e.joined = j then { e with attempts := e.attempts + 1 } else e)

/-- The abandoned attempt is the cue's fourth (R166). -/
def exhausted (j : Nat) (q : List TxEntry) : Bool := q.any (fun e => e.joined == j && 3 ≤ e.attempts)

/-- A queued cue leaves the queue. -/
def dropTx (j : Nat) (q : List TxEntry) : List TxEntry := q.filter (fun e => e.joined != j)

/-- The attempt is abandoned (R166): the cue stays with its count raised, or is discarded with LINE_CHECK when the count would reach 4. -/
def State.transmitAbandon (s : State) : State :=
  match s.line.inFlight with
  | some j =>
    if exhausted j s.line.tx then
      State.raise .lineCheck
        { s with line := { s.line with tx := dropTx j s.line.tx, inFlight := none } }
    else { s with line := { s.line with tx := bumpAttempts j s.line.tx, inFlight := none } }
  | none => s

/-- TRANSMIT_ABANDON. -/
def execTransmitAbandon (s : State) : Host.Outcome State Fault Refusal :=
  whenRunning State.transmitAbandon s

/-- The cue has been sent whole and leaves the queue (R166, R177); its bytes are held until the guard, to know it by (R171). -/
def State.transmitComplete (s : State) : State :=
  match s.line.inFlight with
  | some j => { s with line := { s.line with
      tx := dropTx j s.line.tx, inFlight := none, sentWhole := s.onLine } }
  | none => s

/-- TRANSMIT_COMPLETE. -/
def execTransmitComplete (s : State) : Host.Outcome State Fault Refusal :=
  whenRunning State.transmitComplete s

end Sys2Proof.Machine
end

