-- ==== Sys2Proof/Machine/GradeRequests.lean ====
section
/-! DEFINITION. The grade requests (Chapter 3): GRADE NEW, PRIMARY, VECTOR, VECTOR DELETE, DROP and QUERY. -/

namespace Sys2Proof.Machine

/-- GRADE NEW (R48). -/
def gradeNew (s : State) : State × Answer :=
  let n := s.pool.firstFree
  if n < Config.poolSlots then
    ({ s with pool := ⟨s.pool.slots.set n (some ⟨Grade.flat, 0⟩)⟩ }, some (.done, [byteOf n]))
  else (s, refuse .full)

/-- GRADE_NEW. -/
def execGradeNew (src dst : Station) (s : State) : Host.Outcome State Fault Refusal :=
  serveRequest ⟨src, dst, .gradeNew⟩ gradeNew s

/-- An edit of an allocated slot other than 0, after the tests 1 to 3 of Table 3-4: above 127 NOT_FOUND, slot 0 READ_ONLY, free NOT_FOUND. -/
def withEditable (n : Nat) (edit : Slot → State × Answer) (s : State) : State × Answer :=
  if Config.poolSlots ≤ n then (s, refuse .notFound)
  else if n = 0 then (s, refuse .readOnly)
  else match s.pool.slot n with
    | none => (s, refuse .notFound)
    | some r => edit r

/-- GRADE PRIMARY (R54): the prior primary part is pushed, then the nine values are written (R53, R57, R58). -/
def gradePrimary (n : Nat) (p : RGB WirePrimary) (s : State) : State × Answer :=
  withEditable n (fun r =>
    if p.every (fun c => c.curve.toNat < 16) then
      let clamped := sumRGB (p.map WirePrimary.clamped)
      ((s.push (.primaryChanged n r.grade.primary)).writeSlot n
          { r.grade with primary := p.map WirePrimary.stored },
        some (doneBy clamped, [byteOf n, byteOf clamped]))
    else (s, refuse .notFound)) s

/-- GRADE_PRIMARY. -/
def execGradePrimary (src dst : Station) (slot : Byte) (primary : RGB WirePrimary) (s : State) :
    Host.Outcome State Fault Refusal :=
  serveRequest ⟨src, dst, .gradePrimary slot primary⟩ (gradePrimary slot.toNat primary) s

/-- GRADE VECTOR (R55, Table 3-5): replace at p below the count, append at the count. -/
def gradeVector (n p : Nat) (v : WireVector) (s : State) : State × Answer :=
  withEditable n (fun r =>
    let vs := r.grade.vectors
    if vs.length < p then (s, refuse .notFound)
    else if p = vs.length ∧ Config.vectorPlaces ≤ vs.length then (s, refuse .full)
    else
      let vs' := if p < vs.length then vs.set p v.stored else vs ++ [v.stored]
      ((s.push (.vectorsChanged n vs)).writeSlot n { r.grade with vectors := vs' },
        some (doneBy v.clamped, [byteOf n, byteOf p, byteOf vs'.length, byteOf v.clamped]))) s

/-- GRADE_VECTOR. -/
def execGradeVector (src dst : Station) (slot position : Byte) (vector : WireVector) (s : State) :
    Host.Outcome State Fault Refusal :=
  serveRequest ⟨src, dst, .gradeVector slot position vector⟩
    (gradeVector slot.toNat position.toNat vector) s

/-- GRADE VECTOR DELETE (R56). -/
def gradeVectorDelete (n p : Nat) (s : State) : State × Answer :=
  withEditable n (fun r =>
    let vs := r.grade.vectors
    if vs.length ≤ p then (s, refuse .notFound)
    else
      let vs' := vs.eraseIdx p
      ((s.push (.vectorsChanged n vs)).writeSlot n { r.grade with vectors := vs' },
        some (.done, [byteOf n, byteOf vs'.length]))) s

/-- GRADE_VECTOR_DELETE. -/
def execGradeVectorDelete (src dst : Station) (slot position : Byte) (s : State) :
    Host.Outcome State Fault Refusal :=
  serveRequest ⟨src, dst, .gradeVectorDelete slot position⟩
    (gradeVectorDelete slot.toNat position.toNat) s

/-- GRADE DROP (R50). -/
def gradeDrop (n : Nat) (s : State) : State × Answer :=
  withEditable n (fun r =>
    if 0 < r.refs then (s, some (.inUse, natBytes r.refs))
    else ({ s with pool := ⟨s.pool.slots.set n none⟩ }, some (.done, [byteOf n]))) s

/-- GRADE_DROP. -/
def execGradeDrop (src dst : Station) (slot : Byte) (s : State) :
    Host.Outcome State Fault Refusal :=
  serveRequest ⟨src, dst, .gradeDrop slot⟩ (gradeDrop slot.toNat) s

/-- The PRIMARY part of a slot (R170: part in bit 7 of byte 0, 19 bytes in all). -/
def primaryReply (r : Slot) : List Byte :=
  [0] ++ primaryBytes r.grade.primary ++ natBytes r.refs ++ [byteOf r.grade.vectors.length]

/-- The VECTOR part of a slot (R170: bit 7 the part, bit 6 the rectangle, bits 2..0 the position; 16 or 22 bytes). -/
def vectorReply (p : Nat) (v : Vec) : List Byte :=
  [byteOf (128 + (if v.rect.isSome then 64 else 0) + p % 8)] ++ boxBytes v ++
  (match v.rect with | some q => rectBytes q | none => [])

/-- GRADE QUERY (R60). -/
def gradeQuery (n : Nat) (part : Byte) (p : Nat) (s : State) : State × Answer :=
  match s.pool.slot n with
  | none => (s, refuse .notFound)
  | some r =>
    if part = 0 then (s, some (.done, primaryReply r))
    else if part = 1 then
      match r.grade.vectors[p]? with
      | some v => (s, some (.done, vectorReply p v))
      | none => (s, refuse .notFound)
    else (s, refuse .notFound)

/-- GRADE_QUERY. -/
def execGradeQuery (src dst : Station) (slot part position : Byte) (s : State) :
    Host.Outcome State Fault Refusal :=
  serveRequest ⟨src, dst, .gradeQuery slot part position⟩
    (gradeQuery slot.toNat part position.toNat) s

end Sys2Proof.Machine
end

