-- ==== Sys2Proof/Machine/SceneRequests.lean ====
section
/-! DEFINITION. The scene requests (Chapter 4): SCENE MARK, CLEAR, SET, PURGE and QUERY. -/

namespace Sys2Proof.Machine

/-- What the reel says of a frame: no reel held, beyond the reel, or within it (R70). -/
inductive ReelTest where
  | noReel
  | outOfReel
  | within
deriving DecidableEq, Repr

/-- The test of a frame against the reel held (R70). -/
def State.reelTest (s : State) (frame : Nat) : ReelTest :=
  match s.follower.reel with
  | none => .noReel
  | some r => if r.length ≤ frame then .outOfReel else .within

/-- The slot a grade field names: a slot number, or FFh for SAME (R71, Table 10-9); none when it is above 127 or free. -/
def State.gradeNamed (s : State) (same : Nat) (grade : Byte) : Option Nat :=
  if grade = 0xFF then some same
  else if s.pool.allocated grade.toNat then some grade.toNat else none

/-- The dissolve length after its clamp to 1..63 (R71). -/
def dissolveLength (len : Byte) : Nat := clampNat 1 63 len.toNat

/-- How many values (0 or 1) that clamp changes. -/
def dissolveClamped (len : Byte) : Nat := clampedNat 1 63 len.toNat

/-- SCENE MARK (R72, R73). -/
def sceneMark (frame : Nat) (grade trans len : Byte) (s : State) : State × Answer :=
  match s.reelTest frame with
  | .noReel => (s, refuse .noReel)
  | .outOfReel => (s, refuse .outOfReel)
  | .within =>
    if (sceneAt s.scenes frame).isSome then (s, refuse .exists)
    else match s.gradeNamed (sceneOf s.scenes frame).slot grade, Transition.ofByte trans with
      | some n, some t =>
        if scenesFull s.scenes then (s, refuse .full)
        else
          let s' := s.insertRecord ⟨frame, n, t, dissolveLength len, .console, true⟩
          (s', some (doneBy (dissolveClamped len),
            [byteOf (positionOf s'.scenes frame)] ++ natBytes s'.scenes.length ++
            [byteOf n, byteOf (dissolveClamped len)]))
      | _, _ => (s, refuse .notFound)

/-- SCENE_MARK. -/
def execSceneMark (src dst : Station) (frame : U16) (grade trans len : Byte) (s : State) :
    Host.Outcome State Fault Refusal :=
  serveRequest ⟨src, dst, .sceneMark frame grade trans len⟩
    (sceneMark frame.toNat grade trans len) s

/-- SCENE CLEAR (R74): the entry claims the record's slot, the removed record releases it. The record count after the removal is at most 255 (R64), one byte in the reply (R170, log 20). -/
def sceneClear (frame : Nat) (s : State) : State × Answer :=
  match s.reelTest frame with
  | .noReel => (s, refuse .noReel)
  | .outOfReel => (s, refuse .outOfReel)
  | .within =>
    if frame = 0 then (s, refuse .readOnly)
    else match sceneAt s.scenes frame with
      | none => (s, refuse .notFound)
      | some r =>
        let s' := s.push (.sceneRemoved r)
        let s' := { s' with scenes := removeScene frame s'.scenes, pool := s'.pool.release r.slot }
        (s', some (.done, [byteOf (positionOf s.scenes frame), byteOf s'.scenes.length, byteOf r.slot]))

/-- SCENE_CLEAR. -/
def execSceneClear (src dst : Station) (frame : U16) (s : State) :
    Host.Outcome State Fault Refusal :=
  serveRequest ⟨src, dst, .sceneClear frame⟩ (sceneClear frame.toNat) s

/-- A record's slot, transition, length and confirmed field are replaced, and the references move with the slot (R75). -/
def State.changeRecord (old new : Scene) (s : State) : State :=
  { s with
    scenes := replaceScene new s.scenes
    pool := (s.pool.claim new.slot).release old.slot }

/-- SCENE SET (R75, R76). -/
def sceneSet (frame : Nat) (grade trans len confirm : Byte) (s : State) : State × Answer :=
  match s.reelTest frame with
  | .noReel => (s, refuse .noReel)
  | .outOfReel => (s, refuse .outOfReel)
  | .within =>
    match sceneAt s.scenes frame with
    | none => (s, refuse .notFound)
    | some r =>
      match s.gradeNamed r.slot grade, Transition.ofByte trans with
      | some n, some t =>
        if confirm ≠ 0 ∧ confirm ≠ 1 then (s, refuse .notFound)
        else
          let new : Scene := { r with
            slot := n, trans := t, length := dissolveLength len
            confirmed := r.confirmed || confirm == 1 }
          let s' := (s.push (.sceneChanged r)).changeRecord r new
          (s', some (doneBy (dissolveClamped len),
            [byteOf (positionOf s.scenes frame), byteOf n, flagByte new.confirmed,
             byteOf (dissolveClamped len)]))
      | _, _ => (s, refuse .notFound)

/-- SCENE_SET. -/
def execSceneSet (src dst : Station) (frame : U16) (grade trans len confirm : Byte) (s : State) :
    Host.Outcome State Fault Refusal :=
  serveRequest ⟨src, dst, .sceneSet frame grade trans len confirm⟩
    (sceneSet frame.toNat grade trans len confirm) s

/-- The history is emptied and its references released; the complete flag is cleared when it held an entry (R93). -/
def State.purgeHistory (s : State) : State :=
  { s with
    pool := s.history.entries.foldl (fun p e => p.releaseEntry e) s.pool
    history := ⟨[], s.history.complete && s.history.entries.isEmpty⟩ }

/-- Every unconfirmed record is removed and releases its slot (R78). -/
def State.purgeScenes (s : State) : State :=
  { s with
    pool := (s.scenes.filter (fun r => !r.confirmed)).foldl (fun p r => p.release r.slot) s.pool
    scenes := s.scenes.filter (fun r => r.confirmed) }

/-- SCENE PURGE (R78). -/
def scenePurge (s : State) : State × Answer :=
  match s.follower.reel with
  | none => (s, refuse .noReel)
  | some _ =>
    let s' := s.purgeScenes.purgeHistory
    (s', some (.done, [byteOf (s.scenes.length - s'.scenes.length)] ++ natBytes s'.scenes.length))

/-- SCENE_PURGE. -/
def execScenePurge (src dst : Station) (s : State) : Host.Outcome State Fault Refusal :=
  serveRequest ⟨src, dst, .scenePurge⟩ scenePurge s

/-- The reply data of SCENE QUERY for the record at a position (Table 4-5). -/
def sceneData (t : List Scene) (position : Nat) (r : Scene) : List Byte :=
  [byteOf position] ++ natBytes t.length ++ natBytes r.start ++
  optionBytes 2 (fun x => natBytes x.start) (t[position + 1]?) ++
  [byteOf r.slot, r.trans.code, byteOf r.length] ++ r.origin.bytes ++ [flagByte r.confirmed]

/-- SCENE QUERY (R79, R80). -/
def sceneQuery (mode : Byte) (arg : Nat) (s : State) : State × Answer :=
  if mode = 0 then
    if s.reelTest arg = .outOfReel then (s, refuse .outOfReel)
    else
      let r := sceneOf s.scenes arg
      (s, some (.done, sceneData s.scenes (positionOf s.scenes r.start) r))
  else if mode = 1 then
    match s.scenes[arg]? with
    | some r => (s, some (.done, sceneData s.scenes arg r))
    | none => (s, refuse .notFound)
  else (s, refuse .notFound)

/-- SCENE_QUERY. -/
def execSceneQuery (src dst : Station) (mode : Byte) (arg : U16) (s : State) :
    Host.Outcome State Fault Refusal :=
  serveRequest ⟨src, dst, .sceneQuery mode arg⟩ (sceneQuery mode arg.toNat) s

end Sys2Proof.Machine
end

