-- ==== Sys2Proof/Machine/HistoryRequests.lean ====
section
/-! DEFINITION. UNDO (Chapter 5) and CLEAR FAULTS (Chapter 12). -/

namespace Sys2Proof.Machine

/-- An entry is reverted: a scene entry on the table (R82, R91), a grade entry on its slot (R59, R92). -/
def State.revert (e : Entry) (s : State) : State :=
  match e with
  | .sceneInserted f =>
    match sceneAt s.scenes f with
    | some r => { s with scenes := removeScene f s.scenes, pool := s.pool.release r.slot }
    | none => s
  | .sceneRemoved r => { s with scenes := insertScene r s.scenes, pool := s.pool.claim r.slot }
  | .sceneChanged r =>
    match sceneAt s.scenes r.start with
    | some now => s.changeRecord now r
    | none => s
  | .primaryChanged n p => s.writeSlot n { s.pool.grade n with primary := p }
  | .vectorsChanged n vs => s.writeSlot n { s.pool.grade n with vectors := vs }

/-- The newest entry leaves the history and is reverted, and its reference is released (R90). For a SCENE_CHANGED whose present and prior slot are one the last column of Table 5-4 says no net change, while the claims and releases of that row, R86, R90, Table 3-3 and law L3 (R49) take 1 from the slot's count; the model takes it (DEDUCED, log 31). -/
def State.undoEntry (e : Entry) (s : State) : State :=
  let s := State.revert e
    { s with history := { s.history with entries := s.history.entries.dropLast } }
  { s with pool := s.pool.releaseEntry e }

/-- UNDO (R89, R90). -/
def undo (s : State) : State × Answer :=
  if s.follower.reel.isNone then (s, refuse .noReel)
  else match s.history.entries.getLast? with
    | none => (s, some (.empty, [flagByte s.history.complete]))
    | some e =>
      let s' := s.undoEntry e
      (s', some (.done, e.bytes ++ [byteOf s'.history.entries.length, flagByte s'.history.complete]))

/-- UNDO. -/
def execUndo (src dst : Station) (s : State) : Host.Outcome State Fault Refusal :=
  serveRequest ⟨src, dst, .undo⟩ undo s

/-- Latches that are set again within the service because their cause stands: SYNC_LOST while UNLOCKED, COAST_HOLD while the COAST cause is present (R190). -/
def State.standing (s : State) : BitVec 8 :=
  (if s.raster.locked then 0 else Latch.syncLost.bit) |||
  (if s.follower.holdCoast then Latch.coastHold.bit else 0)

/-- CLEAR FAULTS (R190). No FAULT is offered for a latch that is set again. The reply data are fixed before the reply's own offer, so a TX_OVERFLOW set by that offer is not among them (DESIGN CHOICE, log 35). -/
def clearFaults (mask : BitVec 8) (s : State) : State × Answer :=
  let s' := { s with latches := s.latches &&& (~~~mask ||| s.standing) }
  (s', some (.done, [s'.latches]))

/-- CLEAR_FAULTS. -/
def execClearFaults (src dst : Station) (latches : Byte) (s : State) :
    Host.Outcome State Fault Refusal :=
  serveRequest ⟨src, dst, .clearFaults latches⟩ (clearFaults latches) s

end Sys2Proof.Machine
end

