-- ==== Sys2Proof/Machine/LoaderRequests.lean ====
section
/-! DEFINITION. The loader's requests (Chapter 2): LOAD START, DATA, INSTALL and CANCEL. -/

namespace Sys2Proof.Machine

/-- The table size of a target (Table 2-1). -/
def LoadTarget.size : LoadTarget → Nat
  | .curve _ => 257
  | .shadingH => 64
  | .shadingV => 64

/-- A value clamped to the target's range (R35). -/
def LoadTarget.clamp (t : LoadTarget) (v : Nat) : Nat :=
  match t with
  | .curve _ => clampNat 0 4096 v
  | .shadingH => clampNat 768 1280 v
  | .shadingV => clampNat 768 1280 v

/-- How many values (0 or 1) that clamp changes. -/
def LoadTarget.clamped (t : LoadTarget) (v : Nat) : Nat := if t.clamp v = v then 0 else 1

/-- The target's present contents (R33). -/
def State.tableOf (s : State) : LoadTarget → List Nat
  | .curve n => s.curves.getD n []
  | .shadingH => s.shadeH
  | .shadingV => s.shadeV

/-- The target LOAD START names; none for a kind that is none of the three, or a curve number above 15 (R32 order 2). -/
def targetOf (kind curve : Byte) : Option LoadTarget :=
  if kind = 0 then (if curve.toNat < 16 then some (.curve curve.toNat) else none)
  else if kind = 1 then some .shadingH
  else if kind = 2 then some .shadingV
  else none

/-- LOAD START (R32, R33). -/
def loadStart (kind curve : Byte) (start : Nat) (mode : Byte) (s : State) : State × Answer :=
  if s.loader.state ≠ .idle then (s, refuse .busy)
  else match targetOf kind curve, PointerMode.ofByte mode with
    | some t, some m =>
      if t = .curve 0 then (s, refuse .readOnly)
      else
        let pointer := start % t.size
        ({ s with loader := ⟨.filling, some t, s.tableOf t, pointer, m, none⟩ },
          some (.done, natBytes pointer))
    | _, _ => (s, refuse .notFound)

/-- LOAD_START. -/
def execLoadStart (src dst : Station) (kind curve : Byte) (start : U16) (mode : Byte) (s : State) :
    Host.Outcome State Fault Refusal :=
  serveRequest ⟨src, dst, .loadStart kind curve start mode⟩
    (loadStart kind curve start.toNat mode) s

/-- The pointer after a value is written (R34). -/
def movePointer (m : PointerMode) (size p : Nat) : Nat :=
  match m with
  | .increment => if p + 1 = size then 0 else p + 1
  | .decrement => if p = 0 then size - 1 else p - 1
  | .hold => p

/-- One value is clamped, written at the pointer, and the pointer moved (R35). -/
def Loader.writeValue (t : LoadTarget) (l : Loader) (v : Nat) : Loader :=
  { l with buffer := l.buffer.set l.pointer (t.clamp v), pointer := movePointer l.mode t.size l.pointer }

/-- LOAD DATA (R35, R36): the values in list order, within one service. -/
def loadData (values : List Nat) (s : State) : State × Answer :=
  match s.loader.state, s.loader.target with
  | .filling, some t =>
    let l := values.foldl (Loader.writeValue t) s.loader
    let clamped := (values.map t.clamped).sum
    ({ s with loader := l }, some (doneBy clamped, natBytes l.pointer ++ [byteOf clamped]))
  | .installPending, _ => (s, refuse .busy)
  | _, _ => (s, refuse .wrongState)

/-- LOAD_DATA. -/
def execLoadData (src dst : Station) (values : List U16) (s : State) :
    Host.Outcome State Fault Refusal :=
  serveRequest ⟨src, dst, .loadData values⟩ (loadData (values.map (·.toNat))) s

/-- LOAD INSTALL (R37, R38): no reply now when it is taken; a broadcast leaves no requester. -/
def loadInstall (src dst : Station) (s : State) : State × Answer :=
  match s.loader.state with
  | .idle => (s, refuse .wrongState)
  | .installPending => (s, refuse .busy)
  | .filling =>
    ({ s with loader := { s.loader with
        state := .installPending, requester := if dst = 15 then none else some src } }, none)

/-- LOAD_INSTALL. -/
def execLoadInstall (src dst : Station) (s : State) : Host.Outcome State Fault Refusal :=
  serveRequest ⟨src, dst, .loadInstall⟩ (loadInstall src dst) s

/-- The CANCELLED reply to a pending install whose requester is a station (R41). -/
def State.replyCancelled (s : State) : State :=
  match s.loader.state, s.loader.target, s.loader.requester with
  | .installPending, some t, some a => s.offer ⟨a, .reply 0x22 .cancelled t.bytes⟩
  | _, _, _ => s

/-- LOAD CANCEL (R41): the pending install's CANCELLED is queued first, then DONE with the state the cancel found. -/
def loadCancel (s : State) : State × Answer :=
  ({ s.replyCancelled with loader := Loader.idle }, some (.done, [s.loader.state.code]))

/-- LOAD_CANCEL. -/
def execLoadCancel (src dst : Station) (s : State) : Host.Outcome State Fault Refusal :=
  serveRequest ⟨src, dst, .loadCancel⟩ loadCancel s

end Sys2Proof.Machine
end

