-- ==== Sys2Proof/Machine/Detector.lean ====
section
/-! DEFINITION. The cut detector (Chapter 8): its sample grid and histogram, the comparison at a field boundary, firing, and the service of a peer's CUT. -/

namespace Sys2Proof.Machine

/-! ## Samples -/

/-- The pixel lies on the sample grid (R138). -/
def sampled (std : Standard) (x fieldLine : Nat) : Bool :=
  x % 8 == 0 && fieldLine % 4 == 0 && fieldLine ≤ Config.lastSampledLine std

/-- The luma of a masked pixel (R139). -/
def luma (m : RGB Int) : Int := (77 * m.r + 150 * m.g + 29 * m.b + 128) / 256

/-- The bin a masked pixel falls in (R139). -/
def binOf (m : RGB Int) : Nat := (luma m / 256).toNat

/-- A sample is counted (R139). -/
def countSample (m : RGB Int) (bins : List Nat) : List Nat :=
  bins.set (binOf m) (bins.getD (binOf m) 0 + 1)

/-! ## The comparison -/

/-- The difference D of two histograms (R144): the sum over the bins of the absolute difference. -/
def histogramDifference : List Nat → List Nat → Nat
  | a :: as, b :: bs => (a - b) + (b - a) + histogramDifference as bs
  | _, _ => 0

/-- The measure M of a difference D (R144). -/
def measureOf (std : Standard) (d : Nat) : Nat := d * 1024 / (2 * Config.fieldSamples std)

/-- The field being closed counts: its capture is valid and its histogram sums to S (R142). After a missing-sync expiry there is no field to close, and the capture is void (R160, log 19). -/
def State.wholeCapture (s : State) : Option Capture :=
  if s.detector.bins.sum = Config.fieldSamples s.straps.standard then s.detector.capture else none

/-- The comparison made when the closing boundary is accepted, before the follower settles: its measure and frame, or none when a condition of R143 fails. -/
def State.comparison (s : State) : Option Measure :=
  match s.wholeCapture, s.detector.reference with
  | some c, some r =>
    if r.frame + 1 = c.frame ∧ c.dir = .fwd ∧ (c.speed = .play ∨ c.speed = .vari)
        ∧ s.engineState = .follow then
      some ⟨measureOf s.straps.standard (histogramDifference s.detector.bins r.bins), c.frame⟩
    else none
  | _, _ => none

/-- The comparison that fires, if one does: at or above the threshold, and long enough after the captured current scene start, the difference taken as a signed number (R146). -/
def State.firing (s : State) : Option Measure :=
  match s.comparison, s.detector.capture with
  | some m, some c =>
    if s.profile.threshold ≤ m.value ∧
        (s.profile.minScene : Int) ≤ (m.frame : Int) - (c.sceneStart : Int) then some m
    else none
  | _, _ => none

/-- The detector fires (R146): the CUT cue (R148), and the proposal when the DETECT strap is on. R146 gives the two no order; the CUT is offered first, before the FAULT of a TABLE_FULL that the proposal sets (R81; DESIGN CHOICE, log 30). -/
def State.fire (m : Measure) (s : State) : State :=
  let s := if s.reportsCut then
      s.offer ⟨15, .cut (match s.follower.reel with | some q => q.id | none => 0) m.frame m.value⟩
    else s
  if s.straps.detect then s.propose m.frame .detector else s

/-- The last measure and the reference after the boundary that closes the field (R142, R144), worked out from the state in which the boundary is accepted. A field ended by a missing-sync expiry reaches neither (R160, log 19). -/
def State.closedDetector (s : State) : Detector :=
  { s.detector with
    measure := (match s.comparison with | some m => some m | none => s.detector.measure)
    reference := (match s.wholeCapture with
      | some c => some ⟨c.frame, s.detector.bins⟩
      | none => s.detector.reference) }

/-- The capture for the field a boundary opens (R141), after the controller's work. -/
def State.fieldCapture (arrival : Bool) (s : State) : Option Capture :=
  match arrival, s.follower.current with
  | true, some c => some ⟨c.frame, c.dir, c.speed, s.controller.sceneStart⟩
  | _, _ => none

/-! ## Peers' cuts -/

/-- The service of a peer's CUT: accepted under Table 8-4, it is a proposal with origin PEER; otherwise it is ignored (R149). -/
def State.takePeerCut (src : Station) (reel frame : Nat) (s : State) : State :=
  match s.follower.reel with
  | some r =>
    if s.engineState ≠ .rollcall ∧ s.role src = some .engine ∧ s.straps.peerCuts = true ∧
        r.id = reel ∧ frame < r.length then s.propose frame (.peer src)
    else s
  | none => s

/-- PEER_CUT. A CUT draws no REPLY and is not tested for a CONSOLE role (R174). -/
def execPeerCut (src dst : Station) (reel frame measure : U16) (s : State) :
    Host.Outcome State Fault Refusal :=
  whenRunning (serve ⟨src, dst, .cut reel frame measure⟩
    (State.takePeerCut src reel.toNat frame.toNat)) s

end Sys2Proof.Machine
end

