-- ==== Sys2Proof/Machine/Pipeline.lean ====
section
/-! DEFINITION. The grading pipeline (Chapter 1) in exact integer arithmetic, the video ports (Chapter 9), and PIXEL_CLOCK. `Int` division by a positive number is the floor of R2. -/

namespace Sys2Proof.Machine

/-- The clamp every stage but the last ends in (R2). -/
def clamp12 (x : Int) : Int := clampInt 0 4095 x

/-! ## Stages 1 and 2 -/

/-- The horizontal zone of a pixel (R7). -/
def zoneX (x : Nat) : Nat := x * 64 / 720

/-- The vertical zone of a frame line (R7). -/
def zoneY (std : Standard) (y : Nat) : Nat := y * 64 / Config.frameLines std

/-- Stage 1: shading of one channel (R8). -/
def shade (gainH gainV : Nat) (x : Int) : Int := clamp12 ((x * gainH * gainV + 524288) / 1048576)

/-- Stage 2: film mode (R9). -/
def film (mode : FilmMode) (a : Int) : Int :=
  match mode with
  | .positive => a
  | .negative => 4095 - a

/-- Stage 2: one output channel of the masking matrix (R10). -/
def maskRow (row a : RGB Int) : Int :=
  clamp12 ((row.r * a.r + row.g * a.g + row.b * a.b + 128) / 256)

/-- Stages 1 and 2 of a pixel: m, which goes to both lanes and to the cut detector (R11). -/
def masked (sn : Snapshot) (std : Standard) (x y : Nat) (p : RGB Int) : RGB Int :=
  let a := p.map (fun v => film sn.filmMode
    (shade (sn.shadeH.getD (zoneX x) 1024) (sn.shadeV.getD (zoneY std y) 1024) v))
  sn.matrix.map (fun row => maskRow row a)

/-! ## Stages 3 to 5: a lane -/

/-- Stage 3: the primary of one channel (R13). -/
def primaryStage (p : Primary) (m : Int) : Int := clamp12 ((m * p.gain + 512) / 1024 + p.lift)

/-- Point i of a curve. -/
def curvePoint (t : List Nat) (i : Nat) : Int := (t.getD i 0 : Nat)

/-- Stage 4: a curve's value at p, interpolated between the two points that bracket it (R14). -/
def curveStage (t : List Nat) (p : Int) : Int :=
  let i := (p / 16).toNat
  let f := p - 16 * i
  clamp12 (curvePoint t i + ((curvePoint t (i + 1) - curvePoint t i) * f + 8) / 16)

/-- A box end test on one channel (R16). -/
def within (lo hi : Nat) (q : Int) : Bool := (lo : Int) ≤ q && q ≤ (hi : Int)

/-- The vector matches on colour (R16). -/
def Vec.matchesColour (v : Vec) (q : RGB Int) : Bool :=
  within v.lo.r v.hi.r q.r && within v.lo.g v.hi.g q.g && within v.lo.b v.hi.b q.b

/-- The vector matches on position (R17). -/
def Vec.matchesPosition (v : Vec) (x y : Nat) : Bool :=
  match v.rect with
  | none => true
  | some k => k.x0 ≤ x && x ≤ k.x1 && k.y0 ≤ y && y ≤ k.y1

/-- Stage 5: the offsets of the first vector of the list that matches, and no other (R18). -/
def secondaryStage (vs : List Vec) (x y : Nat) (q : RGB Int) : RGB Int :=
  match vs.find? (fun v => v.matchesColour q && v.matchesPosition x y) with
  | some v => q.zip (fun a o => clamp12 (a + o)) v.offset
  | none => q

/-- One grading lane: stages 3 to 5 with the lane's copy (R12, R15). -/
def lane (curves : List (List Nat)) (g : Grade) (x y : Nat) (m : RGB Int) : RGB Int :=
  secondaryStage g.vectors x y
    (g.primary.zip (fun p a => curveStage (curves.getD p.curve []) (primaryStage p a)) m)

/-! ## Stages 6 and 7 -/

/-- Stage 6: the blend of one channel (R20). -/
def blend (w : Nat) (old new : Int) : Int := (old * (256 - w) + new * w + 128) / 256

/-- Stages 3 to 6: CURRENT's lane alone while IDLE (R19), both lanes blended while RUNNING (R20). -/
def graded (sn : Snapshot) (x y : Nat) (m : RGB Int) : RGB Int :=
  let old := lane sn.curves sn.current x y m
  match sn.incoming with
  | none => old
  | some g => old.zip (blend sn.weight) (lane sn.curves g x y m)

/-- Stage 7: output coding of one channel (R22). -/
def outputCode (v : Int) : Nat := (64 + (v * 876 + 2047) / 4095).toNat

/-- The codes of an active pixel of a picture that is not forced black (R1, R26). -/
def pixelCodes (sn : Snapshot) (std : Standard) (x y : Nat) (p : RGB Int) : RGB Nat :=
  (graded sn x y (masked sn std x y p)).map outputCode

/-! ## The ports -/

/-- The pixel number of the n-th pixel clock after the leading edge of line sync: 720 pixels from the 140th (R152). -/
def pixelNumber (n : Nat) : Option Nat := if 140 ≤ n ∧ n < 860 then some (n - 140) else none

/-- The field line of a line number, when it lies in the active window (R152). -/
def fieldLine (std : Standard) (n : Nat) : Option Nat :=
  if Config.firstLine std ≤ n ∧ n ≤ Config.lastLine std then some (n - Config.firstLine std) else none

/-- Where the pixel now sampled lies: its pixel number and field line when it is active (R152). After a missing-sync expiry that keeps lock the lines are those counted since the expiry (R157), so the active lines show picture again before the next field sync (DESIGN CHOICE, log 27). -/
def State.activePixel (s : State) : Option (Nat × Nat) :=
  match pixelNumber s.video.clocksIntoLine, fieldLine s.straps.standard s.raster.lineCount with
  | some x, some l => some (x, l)
  | _, _ => none

/-- The frame line (R1, R153). -/
def frameLine (fieldLine : Nat) (parity : Bool) : Nat := 2 * fieldLine + (if parity then 1 else 0)

/-- The field being received was opened by a field boundary: lock is held and the field-open mark set (R140; log 19). -/
def State.fieldCounts (s : State) : Bool := s.raster.locked && s.raster.fieldOpen

/-- The m of an active pixel (R11). -/
def State.pixelMask (s : State) (x l : Nat) (p : RGB Int) : RGB Int :=
  masked s.snapshot s.straps.standard x (frameLine l s.video.parity) p

/-- What the output coder produces for the pixel now sampled (R22, R23, R25; log 18). -/
def State.codeNow (s : State) (p : RGB Int) : RGB Nat :=
  match s.activePixel with
  | some (x, l) =>
    if s.forcedBlack then RGB.all 64
    else (graded s.snapshot x (frameLine l s.video.parity) (s.pixelMask x l p)).map outputCode
  | none => RGB.all 64

/-- The histogram after the pixel now sampled (R138, R139, R140). -/
def State.binsNow (s : State) (p : RGB Int) : List Nat :=
  match s.activePixel with
  | some (x, l) =>
    if s.fieldCounts && sampled s.straps.standard x l then
      countSample (s.pixelMask x l p) s.detector.bins
    else s.detector.bins
  | none => s.detector.bins

/-- The output port presents the oldest pixel of the delay; the new one joins it (R154). -/
def Video.present (q : OutPixel) (v : Video) : Video :=
  { v with out := (v.delay ++ [q]).headD OutPixel.blank, delay := (v.delay ++ [q]).tail }

/-- The missing-sync timer's reading rises; the period itself is reached by the expiry (log 10). -/
def Raster.tick (std : Standard) (r : Raster) : Raster :=
  { r with sinceStart := min (r.sinceStart + 1) (Config.missingSyncClocks std - 1) }

/-- The roll-call window's time left falls; 0 is reached by the window's end (log 10). -/
def rollCallTick (t : Option Nat) : Option Nat := t.map (fun n => if 1 < n then n - 1 else n)

/-- One pixel clock (R152, R154). -/
def State.pixelClock (p : RGB Int) (lineSync fieldSync parity : Bool) (s : State) : State :=
  let s := { s with video := { s.video with clocksIntoLine := s.video.clocksIntoLine + 1 } }
  { s with
    video := s.video.present ⟨s.codeNow p, lineSync, fieldSync, parity⟩
    detector := { s.detector with bins := s.binsNow p }
    raster := s.raster.tick s.straps.standard
    rollCall := rollCallTick s.rollCall }

/-- PIXEL_CLOCK. -/
def execPixelClock (red green blue : Sample) (lineSync fieldSync parity : Bool) (s : State) :
    Host.Outcome State Fault Refusal :=
  whenRunning (State.pixelClock ⟨red.toNat, green.toNat, blue.toNat⟩ lineSync fieldSync parity) s

end Sys2Proof.Machine
end

