-- ==== Sys2Proof/Machine/Controller.lean ====
section
/-! DEFINITION. The transition controller's work at a field boundary (Chapter 7, R123 to R130). -/

namespace Sys2Proof.Machine

/-- The controller is RUNNING (R119). -/
def Controller.running (c : Controller) : Bool := c.incoming.isSome

/-- A running dissolve's count rises; past N the dissolve completes (R123). -/
def State.advanceDissolve (s : State) : State :=
  if s.controller.running then
    if s.controller.count + 1 ≤ s.controller.length then
      { s with controller := { s.controller with count := s.controller.count + 1 } }
    else s.completeDissolve
  else s

/-- A transition is due for the scene found (R125). -/
def Controller.fires (c : Controller) (r : Scene) : Bool :=
  r.start != c.sceneStart || (!c.running && r.slot != c.current.slot)

/-- The kind of the transition fired: a DISSOLVE exactly under R126's five conditions. For a changed slot taken up at the boundary that completes a dissolve, R125, R126's list of cuts and Table 7-5 say CUT, also where an arrival there meets all five; the model then makes it a DISSOLVE (DEDUCED, log 37). -/
def transitionKind (arrival : Bool) (f : CurrentFrame) (r : Scene) (holdExit : Bool) : Transition :=
  if arrival && f.dir = .fwd && f.speed = .play && f.frame = r.start && r.trans = .dissolve
      && !holdExit then .dissolve else .cut

/-- A CUT (R127): a running dissolve is completed, then CURRENT names the scene's slot with a fresh copy. -/
def State.cutTo (r : Scene) (s : State) : State :=
  let s := s.completeDissolve
  { s with
    pool := (s.pool.claim r.slot).release s.controller.current.slot
    controller := { s.controller with
      current := ⟨r.slot, s.pool.grade r.slot, false⟩, sceneStart := r.start } }

/-- A DISSOLVE (R128): a running dissolve is completed, then INCOMING names the scene's slot with a fresh copy. -/
def State.dissolveTo (r : Scene) (s : State) : State :=
  let s := s.completeDissolve
  { s with
    pool := s.pool.claim r.slot
    controller := { s.controller with
      incoming := some ⟨r.slot, s.pool.grade r.slot, false⟩
      length := r.length, count := 1, sceneStart := r.start } }

/-- The SCENE ENTERED cue of a transition (Table 7-3). -/
def State.sceneEnteredCue (s : State) (r : Scene) (f : CurrentFrame) (kind : Transition) : TxCue :=
  ⟨15, .sceneEntered (match s.follower.reel with | some q => q.id | none => 0) r.start f.frame r.slot
    kind (if kind = .dissolve then r.length else 0) s.follower.fieldCount⟩

/-- SCENE ENTERED is queued when its report enable is set (R129). -/
def State.reportScene (r : Scene) (f : CurrentFrame) (kind : Transition) (s : State) : State :=
  if s.reportsSceneEntered then s.offer (s.sceneEnteredCue r f kind) else s

/-- A transition fires (R126 to R129). -/
def State.fireTransition (arrival : Bool) (f : CurrentFrame) (r : Scene) (s : State) : State :=
  let kind := transitionKind arrival f r s.controller.holdExit
  let s' := match kind with
    | .cut => s.cutTo r
    | .dissolve => s.dissolveTo r
  s'.reportScene r f kind

/-- The lookup of the current frame's scene and what it fires; the hold-exit mark is read, then cleared (R125, R126). -/
def State.lookUp (arrival : Bool) (f : CurrentFrame) (s : State) : State :=
  let r := sceneOf s.scenes f.frame
  let s' := if s.controller.fires r then s.fireTransition arrival f r else s
  { s' with controller := { s'.controller with holdExit := false } }

/-- In HOLD the choice of scene is kept: a dissolve still running completes, and the hold-exit mark is set (R124). -/
def State.keepScene (s : State) : State :=
  let s := s.completeDissolve
  { s with controller := { s.controller with holdExit := true } }

/-- A marked context takes a fresh copy of the slot it names (R130). -/
def Context.refresh (p : Pool) (c : Context) : Context :=
  if c.mark then { c with copy := p.grade c.slot, mark := false } else c

/-- Every marked context is refreshed (R130). -/
def State.refreshContexts (s : State) : State :=
  { s with controller := { s.controller with
    current := s.controller.current.refresh s.pool
    incoming := s.controller.incoming.map (Context.refresh s.pool) } }

/-- The controller's work at a field boundary, after the frame follower's; `arrival` is the follower's arrival mark (R112, R123 to R130). -/
def State.controllerBoundary (arrival : Bool) (s : State) : State :=
  let s := s.advanceDissolve
  let s :=
    if s.engineState = .hold then s.keepScene
    else match s.follower.current with
      | some f => s.lookUp arrival f
      | none => s
  s.refreshContexts

/-- The blend weight of the field (R130); 0 while IDLE, where it is not used. -/
def Controller.weight (c : Controller) : Nat :=
  if c.running then 256 * c.count / (c.length + 1) else 0

end Sys2Proof.Machine
end

