-- ==== Sys2Proof/Machine/PortRequests.lean ====
section
/-! DEFINITION. The ports (Chapter 12, Table 12-2): PORT READ and the PORT WRITEs. -/

namespace Sys2Proof.Machine

/-- The three coefficients of a matrix row. -/
def rowBytes (row : RGB Int) : List Byte := row.toList.flatMap intBytes

/-- The reference's frame and eight of its bins, or absent (ports 11 and 12). -/
def histogramBytes (first : Nat) (r : Option Reference) : List Byte :=
  optionBytes 18 (fun q => natBytes q.frame ++ ((q.bins.drop first).take 8).flatMap natBytes) r

/-- A port's contents, laid out as R170 gives, in the order Table 12-2 lists them; none for a port that does not exist (R193). -/
def State.portContents (s : State) (port : Nat) : Option (List Byte) :=
  match port with
  | 0 => some ([s.engineState.code, s.follower.causes, flagByte s.line.mute,
      flagByte s.history.complete] ++
      optionBytes 4 (fun q => natBytes q.id ++ natBytes q.length) s.follower.reel)
  | 1 => some (optionBytes 2 (fun c => natBytes c.frame) s.follower.current ++
      natBytes s.controller.sceneStart ++ [byteOf s.follower.coast] ++
      natBytes s.follower.fieldCount ++ [byteOf s.controller.count, byteOf s.controller.length])
  | 2 => some [s.latches]
  | 3 => some (natBytes s.scenes.length ++ [byteOf s.pool.count, byteOf s.history.entries.length])
  | 4 => some (bytesOf16 (s.enables.setWidth 16))
  | 5 => some [s.profile.filmRequested.code, s.profile.filmInEffect.code]
  | 6 => some (rowBytes s.profile.matrix.r)
  | 7 => some (rowBytes s.profile.matrix.g)
  | 8 => some (rowBytes s.profile.matrix.b)
  | 9 => some (natBytes s.profile.threshold)
  | 10 => some (natBytes s.profile.minScene)
  | 11 => some (histogramBytes 0 s.detector.reference)
  | 12 => some (histogramBytes 8 s.detector.reference)
  | 13 => some (optionBytes 4 (fun m => natBytes m.value ++ natBytes m.frame) s.detector.measure)
  | 14 => some [s.straps.station.setWidth 8, s.straps.standard.code, flagByte s.straps.detect,
      flagByte s.straps.peerCuts]
  | 15 => some (s.roster.map roleCode)
  | _ => none

/-- PORT READ (R193): the port number followed by its contents. -/
def portRead (port : Byte) (s : State) : State × Answer :=
  match s.portContents port.toNat with
  | some d => (s, some (.done, port :: d))
  | none => (s, refuse .notFound)

/-- PORT_READ. -/
def execPortRead (src dst : Station) (port : Byte) (s : State) :
    Host.Outcome State Fault Refusal :=
  serveRequest ⟨src, dst, .portRead port⟩ (portRead port) s

/-! ## Writes of the writable ports -/

/-- Port 4: all ten report enables together (R192); the other bits are disregarded (R170). The flags are stored before the REPLY is offered, so the new ones decide on the FAULT of a TX_OVERFLOW that offer sets (DESIGN CHOICE, log 36). -/
def writeEnables (flags : U16) (s : State) : State × Answer :=
  ({ s with enables := flags.setWidth 10 },
    some (.done, 4 :: bytesOf16 ((flags.setWidth 10).setWidth 16)))

/-- Port 5: the requested film mode alone (R194); a value that names none is refused (R193). -/
def writeFilmMode (mode : Byte) (s : State) : State × Answer :=
  match FilmMode.ofByte mode with
  | some m => ({ s with profile := { s.profile with filmRequested := m } }, some (.done, [5, m.code]))
  | none => (s, refuse .notFound)

/-- A matrix with one row replaced. -/
def Matrix.setRow (m : Matrix) (c : Channel) (row : RGB Int) : Matrix :=
  match c with
  | .r => { m with r := row }
  | .g => { m with g := row }
  | .b => { m with b := row }

/-- The port of a matrix row (Table 12-2). -/
def Channel.port : Channel → Byte
  | .r => 6 | .g => 7 | .b => 8

/-- Ports 6 to 8: one matrix row, each coefficient clamped to −512..+511 (R194). -/
def writeMatrixRow (c : Channel) (k : RGB (BitVec 16)) (s : State) : State × Answer :=
  let row := k.map (fun a => clampInt (-512) 511 a.toInt)
  let clamped := sumRGB (k.map (fun a => clampedInt (-512) 511 a.toInt))
  ({ s with profile := { s.profile with matrix := s.profile.matrix.setRow c row } },
    some (doneBy clamped, Channel.port c :: rowBytes row))

/-- Port 9: the cut threshold, clamped to 0..1024 (R145). -/
def writeThreshold (v : Nat) (s : State) : State × Answer :=
  let t := clampNat 0 1024 v
  ({ s with profile := { s.profile with threshold := t } },
    some (doneBy (clampedNat 0 1024 v), 9 :: natBytes t))

/-- Port 10: the minimum scene length, clamped to 1..255 (R145). -/
def writeMinScene (v : Nat) (s : State) : State × Answer :=
  let t := clampNat 1 255 v
  ({ s with profile := { s.profile with minScene := t } },
    some (doneBy (clampedNat 1 255 v), 10 :: natBytes t))

/-- PORT WRITE (R193): 16 or above NOT_FOUND; read-only READ_ONLY; a payload length that does not match the port NOT_FOUND; otherwise the write of that port. -/
def portWrite (port : Byte) (data : List Byte) (s : State) : State × Answer :=
  match port.toNat, data with
  | 4, [a, b] => writeEnables (word16 a b) s
  | 5, [m] => writeFilmMode m s
  | 6, [a, b, c, d, e, f] => writeMatrixRow .r ⟨word16 a b, word16 c d, word16 e f⟩ s
  | 7, [a, b, c, d, e, f] => writeMatrixRow .g ⟨word16 a b, word16 c d, word16 e f⟩ s
  | 8, [a, b, c, d, e, f] => writeMatrixRow .b ⟨word16 a b, word16 c d, word16 e f⟩ s
  | 9, [a, b] => writeThreshold (word16 a b).toNat s
  | 10, [a, b] => writeMinScene (word16 a b).toNat s
  | p, _ =>
    if 16 ≤ p then (s, refuse .notFound)
    else if 4 ≤ p ∧ p ≤ 10 then (s, refuse .notFound)
    else (s, refuse .readOnly)

/-- PORT_WRITE. -/
def execPortWrite (src dst : Station) (port : Byte) (data : List Byte) (s : State) :
    Host.Outcome State Fault Refusal :=
  serveRequest ⟨src, dst, .portWrite port data⟩ (portWrite port data) s

/-- PORT_WRITE_REPORT_ENABLES. -/
def execPortWriteReportEnables (src dst : Station) (flags : U16) (s : State) :
    Host.Outcome State Fault Refusal :=
  serveRequest ⟨src, dst, .portWrite 4 (bytesOf16 flags)⟩ (writeEnables flags) s

/-- PORT_WRITE_FILM_MODE. -/
def execPortWriteFilmMode (src dst : Station) (mode : Byte) (s : State) :
    Host.Outcome State Fault Refusal :=
  serveRequest ⟨src, dst, .portWrite 5 [mode]⟩ (writeFilmMode mode) s

/-- PORT_WRITE_MATRIX. -/
def execPortWriteMatrix (src dst : Station) (row : Channel) (coefficients : RGB (BitVec 16))
    (s : State) : Host.Outcome State Fault Refusal :=
  serveRequest ⟨src, dst, .portWrite (Channel.port row)
    (bytesOf16 coefficients.r ++ bytesOf16 coefficients.g ++ bytesOf16 coefficients.b)⟩
    (writeMatrixRow row coefficients) s

/-- PORT_WRITE_CUT_THRESHOLD. -/
def execPortWriteCutThreshold (src dst : Station) (value : U16) (s : State) :
    Host.Outcome State Fault Refusal :=
  serveRequest ⟨src, dst, .portWrite 9 (bytesOf16 value)⟩ (writeThreshold value.toNat) s

/-- PORT_WRITE_MIN_SCENE. -/
def execPortWriteMinScene (src dst : Station) (value : U16) (s : State) :
    Host.Outcome State Fault Refusal :=
  serveRequest ⟨src, dst, .portWrite 10 (bytesOf16 value)⟩ (writeMinScene value.toNat) s

end Sys2Proof.Machine
end

