-- ==== Sys2Proof/Machine/Raster.lean ====
section
/-! DEFINITION. The raster lock monitor (Chapter 9): LINE_SYNC, FIELD_SYNC, MISSING_SYNC_EXPIRY, and the field boundary across the blocks (R160). -/

namespace Sys2Proof.Machine

/-- LINE_SYNC: the line count rises (R156), and the pixel position starts over at the leading edge (R152). A line sync and a field sync sampled on one pixel clock are two commands: FIELD_SYNC is given first, so that the line is line 1 of the field it begins (DESIGN CHOICE, log 32). -/
def execLineSync (s : State) : Host.Outcome State Fault Refusal :=
  whenRunning (fun s => { s with
    raster := { s.raster with lineCount := s.raster.lineCount + 1 }
    video := { s.video with clocksIntoLine := 0 } }) s

/-! ## Loss of lock -/

/-- The effects of a declaration of loss of lock (Table 9-4, R161, R133, R140, R141, R115). -/
def State.loseLock (s : State) : State :=
  let s := { s with
    raster := { s.raster with locked := false, goodRun := 0, badRun := 0 }
    forcedBlack := true }
  let s := s.raise .syncLost
  let s := s.completeDissolve
  { s with
    follower := s.follower.loseLock
    detector := { s.detector with bins := List.replicate 16 0, capture := none } }

/-- A bad field acts on the runs: it sets the good-field run to 0 while UNLOCKED, and the second in a row while LOCKED declares loss (R158, R159). -/
def State.badField (s : State) : State :=
  if s.raster.locked then
    if s.raster.badRun = 0 then { s with raster := { s.raster with badRun := 1 } }
    else s.loseLock
  else { s with raster := { s.raster with goodRun := 0 } }

/-- A good field acts on the runs: the fourth in a row while UNLOCKED declares lock (R158, R159). -/
def State.goodField (s : State) : State :=
  if s.raster.locked then { s with raster := { s.raster with badRun := 0 } }
  else if s.raster.goodRun = 3 then
    { s with raster := { s.raster with locked := true, goodRun := 0, badRun := 0 } }
  else { s with raster := { s.raster with goodRun := s.raster.goodRun + 1 } }

/-! ## The field boundary -/

/-- The detector's firing and the controller's work, in either order when the detector fires (R147): a free choice (log 7). -/
def State.fireAndControl (firing : Option Measure) (arrival : Bool) (s : State) : State :=
  match firing with
  | none => s.controllerBoundary arrival
  | some m =>
    let s' := { s with freeCount := s.freeCount + 1 }
    if Config.firingFirst s.freeCount then (s'.fire m).controllerBoundary arrival
    else (s'.controllerBoundary arrival).fire m

/-- The target table is replaced whole by the loader's buffer (R39); curve 0 is no possible target (R27). -/
def State.installTable (t : LoadTarget) (buffer : List Nat) (s : State) : State :=
  match t with
  | .curve n => if n = 0 then s else { s with curves := s.curves.set n buffer }
  | .shadingH => { s with shadeH := buffer }
  | .shadingV => { s with shadeV := buffer }

/-- A pending install completes, and its requester is answered (R39). -/
def State.installBoundary (s : State) : State :=
  match s.loader.state, s.loader.target with
  | .installPending, some t =>
    let s' := { s.installTable t s.loader.buffer with loader := Loader.idle }
    match s.loader.requester with
    | some a => s'.offer ⟨a, .reply 0x22 .done (t.bytes ++ natBytes s.follower.fieldCount)⟩
    | none => s'
  | _, _ => s

/-- The snapshot of the field the boundary opens (Table 1-2, R3). -/
def State.takeSnapshot (s : State) : Snapshot where
  filmMode := s.profile.filmInEffect
  matrix := s.profile.matrix
  shadeH := s.shadeH
  shadeV := s.shadeV
  curves := s.curves
  current := s.controller.current.copy
  incoming := s.controller.incoming.map (·.copy)
  weight := s.controller.weight

/-- A field boundary (R160, Table 9-3): the frame follower, the detector's firing and the controller, the profile's film mode (R194), the loader, the detector's histogram, reference and capture, the snapshot; and the end of forced black (R24). -/
def State.fieldBoundary (s : State) : State :=
  let closed := s.closedDetector
  let arrival := s.arrives
  let s' := s.followBoundary.fireAndControl s.firing arrival
  let s' := { s' with profile := { s'.profile with filmInEffect := s'.profile.filmRequested } }
  let s' := s'.installBoundary
  { s' with
    detector := { closed with bins := List.replicate 16 0, capture := s'.fieldCapture arrival }
    snapshot := s'.takeSnapshot
    forcedBlack := s'.engineState = .rollcall || s'.engineState = .unsync }

/-! ## The sync events -/

/-- The field a field sync ends is judged by its line count, when it began with a field sync (R156). -/
def State.judgeField (s : State) : State :=
  if s.raster.fieldOpen then
    if Config.goodCount s.straps.standard s.raster.lineCount then s.goodField else s.badField
  else s

/-- A field sync (R156): the ending field is judged, the next begun, and the sync is a field boundary when lock is held after that (R160). A line sync on the same pixel clock is given after it (log 32). -/
def State.fieldSync (parity : Bool) (s : State) : State :=
  let s := s.judgeField
  let s := { s with
    raster := { s.raster with lineCount := 0, fieldOpen := true, sinceStart := 0 }
    video := { s.video with parity := parity } }
  if s.raster.locked then s.fieldBoundary else s

/-- FIELD_SYNC. -/
def execFieldSync (parity : Bool) (s : State) : Host.Outcome State Fault Refusal :=
  whenRunning (State.fieldSync parity) s

/-- The missing-sync timer expires (R157): a bad field is counted, the mark and count cleared, the timer restarted. The field it ends has no closing boundary (R160), so its capture becomes void and the next boundary closes nothing (DEDUCED, log 19). -/
def State.missingSync (s : State) : State :=
  State.badField
    { s with
      raster := { s.raster with lineCount := 0, fieldOpen := false, sinceStart := 0 }
      detector := { s.detector with capture := none } }

/-- MISSING_SYNC_EXPIRY. -/
def execMissingSyncExpiry (s : State) : Host.Outcome State Fault Refusal :=
  whenRunning State.missingSync s

/-- ROLL_CALL_WINDOW_END: the window ends and the timer stops; the engine state is derived afresh (R185). A stopped timer reaches nothing. -/
def execRollCallWindowEnd (s : State) : Host.Outcome State Fault Refusal :=
  whenRunning (fun s => { s with rollCall := none }) s

end Sys2Proof.Machine
end

