-- ==== Sys2Proof/Machine/Dispatch.lean ====
section
/-! DEFINITION. One arm per command of spec/opcode_table.json, each one direct call of its meaning. -/

namespace Sys2Proof.Machine

def exec (i : Instr) (s : State) : Host.Outcome State Fault Refusal :=
  match i with
  | .powerOnReset straps => Sys2Proof.Machine.execPowerOnReset straps s
  | .lineSync => Sys2Proof.Machine.execLineSync s
  | .fieldSync parity => Sys2Proof.Machine.execFieldSync parity s
  | .missingSyncExpiry => Sys2Proof.Machine.execMissingSyncExpiry s
  | .rollCallWindowEnd => Sys2Proof.Machine.execRollCallWindowEnd s
  | .guardComplete heard => Sys2Proof.Machine.execGuardComplete heard s
  | .reel src id len => Sys2Proof.Machine.execReel src id len s
  | .frame src index dir speed lead span => Sys2Proof.Machine.execFrame src index dir speed lead span s
  | .present src role ask => Sys2Proof.Machine.execPresent src role ask s
  | .lineReset src => Sys2Proof.Machine.execLineReset src s
  | .hold src => Sys2Proof.Machine.execHold src s
  | .release src => Sys2Proof.Machine.execRelease src s
  | .sceneMark src dst index grade kind len => Sys2Proof.Machine.execSceneMark src dst index grade kind len s
  | .sceneClear src dst index => Sys2Proof.Machine.execSceneClear src dst index s
  | .sceneSet src dst index grade kind len confirm => Sys2Proof.Machine.execSceneSet src dst index grade kind len confirm s
  | .scenePurge src dst => Sys2Proof.Machine.execScenePurge src dst s
  | .sceneQuery src dst mode arg => Sys2Proof.Machine.execSceneQuery src dst mode arg s
  | .gradeNew src dst => Sys2Proof.Machine.execGradeNew src dst s
  | .gradePrimary src dst slot primary => Sys2Proof.Machine.execGradePrimary src dst slot primary s
  | .gradeVector src dst slot position vector => Sys2Proof.Machine.execGradeVector src dst slot position vector s
  | .gradeVectorDelete src dst slot position => Sys2Proof.Machine.execGradeVectorDelete src dst slot position s
  | .gradeDrop src dst slot => Sys2Proof.Machine.execGradeDrop src dst slot s
  | .gradeQuery src dst slot part position => Sys2Proof.Machine.execGradeQuery src dst slot part position s
  | .loadStart src dst kind curve start mode => Sys2Proof.Machine.execLoadStart src dst kind curve start mode s
  | .loadData src dst values => Sys2Proof.Machine.execLoadData src dst values s
  | .loadInstall src dst => Sys2Proof.Machine.execLoadInstall src dst s
  | .loadCancel src dst => Sys2Proof.Machine.execLoadCancel src dst s
  | .portRead src dst port => Sys2Proof.Machine.execPortRead src dst port s
  | .portWriteReportEnables src dst flags => Sys2Proof.Machine.execPortWriteReportEnables src dst flags s
  | .portWriteFilmMode src dst mode => Sys2Proof.Machine.execPortWriteFilmMode src dst mode s
  | .portWriteMatrix src dst row coefficients => Sys2Proof.Machine.execPortWriteMatrix src dst row coefficients s
  | .portWriteCutThreshold src dst value => Sys2Proof.Machine.execPortWriteCutThreshold src dst value s
  | .portWriteMinScene src dst value => Sys2Proof.Machine.execPortWriteMinScene src dst value s
  | .portWrite src dst port data => Sys2Proof.Machine.execPortWrite src dst port data s
  | .undo src dst => Sys2Proof.Machine.execUndo src dst s
  | .clearFaults src dst latches => Sys2Proof.Machine.execClearFaults src dst latches s
  | .peerCut src dst reel index measure => Sys2Proof.Machine.execPeerCut src dst reel index measure s
  | .transmitStart => Sys2Proof.Machine.execTransmitStart s
  | .deferralYield => Sys2Proof.Machine.execDeferralYield s
  | .transmitAbandon => Sys2Proof.Machine.execTransmitAbandon s
  | .transmitComplete => Sys2Proof.Machine.execTransmitComplete s
  | .pixelClock red green blue lineSync fieldSync parity => Sys2Proof.Machine.execPixelClock red green blue lineSync fieldSync parity s
  | .resetAsserted => Sys2Proof.Machine.execResetAsserted s

end Sys2Proof.Machine
end

