-- ==== Sys2Proof/Safety.lean ====
section
/-! DEFINITION. What a sound state is: the manual's laws L1 to L12 and the ranges of its tables, block by block. Each is kept by every step (the obligations say so), some with the laws of other blocks as premises. -/

namespace Sys2Proof.Safety

open Machine

/-- A step that neither faults nor is refused. -/
def Runs (o : Host.Outcome State Fault Refusal) : Prop := ∃ t, o = .next t

/-! ## Scene table and edit history (laws L1, L2, L4) -/

/-- Law L1 (R64), law L2 (R65), the head scene (R66) and the field ranges of Table 4-1; with no reel held, the table is that of R68. -/
abbrev TableOk (reel : Option Reel) (t : List Scene) : Prop :=
  t.length ≤ 256 ∧
  (∃ r ∈ t.head?, r.start = 0 ∧ r.origin = .console ∧ r.confirmed = true) ∧
  t.Pairwise (fun a b => a.start < b.start) ∧
  (∀ r ∈ t, 1 ≤ r.length ∧ r.length ≤ 63) ∧
  (∀ q ∈ reel, ∀ r ∈ t, r.start < q.length) ∧
  (reel = none → t = [Scene.head])

/-- The table after a scene entry is reverted (R82); a grade entry leaves the table as it is. -/
def revertTable (e : Entry) (t : List Scene) : List Scene :=
  match e with
  | .sceneInserted f => removeScene f t
  | .sceneRemoved r => insertScene r t
  | .sceneChanged r => replaceScene r t
  | .primaryChanged _ _ => t
  | .vectorsChanged _ _ => t

/-- What an entry needs of the table it is reverted in (R82): the inserted or changed record is there, the removed one's frame is free. -/
def entryFits (e : Entry) (t : List Scene) : Bool :=
  match e with
  | .sceneInserted f => f != 0 && t.any (fun r => r.start == f)
  | .sceneRemoved r => r.start != 0 && !t.any (fun x => x.start == r.start)
  | .sceneChanged r => t.any (fun x => x.start == r.start && x.origin == r.origin)
  | .primaryChanged _ _ => true
  | .vectorsChanged _ _ => true

/-- The entries, newest first, can be reverted one after the other, and every table on the way is sound (R82, R88). -/
def reverts (reel : Option Reel) : List Entry → List Scene → Bool
  | [], t => decide (TableOk reel t)
  | e :: es, t => decide (TableOk reel t) && entryFits e t && reverts reel es (revertTable e t)

/-- The table that undoing every entry leaves. -/
def undoneTable (es : List Entry) (t : List Scene) : List Scene := es.foldl (fun t e => revertTable e t) t

/-- Law L4 (R84). -/
abbrev HistoryBounded (s : State) : Prop := s.history.entries.length ≤ 16

/-- Laws L1 and L2, with the history that UNDO walks back through (R82); while the complete flag is set, undoing every entry leaves the head scene alone (R88). -/
abbrev ScenesSound (s : State) : Prop :=
  (∀ q ∈ s.follower.reel, 0 < q.length) ∧
  reverts s.follower.reel s.history.entries.reverse s.scenes = true ∧
  (s.history.complete = true →
    undoneTable s.history.entries.reverse s.scenes = [Scene.head])

/-! ## Grade pool (laws L3, L12) -/

/-- How many holders name a slot: scene records, history entries and grade contexts (R49). -/
def holders (s : State) (n : Nat) : Nat :=
  s.scenes.countP (fun r => r.slot == n) +
  s.history.entries.countP (fun e => e.slot? == some n) +
  (if s.controller.current.slot = n then 1 else 0) +
  (if (s.controller.incoming.map (·.slot)) = some n then 1 else 0)

/-- The slot a grade edit's entry writes back to (R86); none for a scene entry. -/
def editedSlot : Entry → Option Nat
  | .primaryChanged n _ => some n
  | .vectorsChanged n _ => some n
  | .sceneInserted _ => none
  | .sceneRemoved _ => none
  | .sceneChanged _ => none

/-- Law L3 (R49): each count of slots 1..127 is the number of holders, and none names a free slot; slot 0 is allocated, flat and not counted (R46), and no entry writes back to it, since no grade edit of slot 0 is taken (R52, R86). -/
abbrev PoolSound (s : State) : Prop :=
  s.pool.slots.length = 128 ∧
  s.pool.slot 0 = some ⟨Grade.flat, 0⟩ ∧
  (∀ n < 128, n ≠ 0 → (match s.pool.slot n with | some r => r.refs | none => 0) = holders s n) ∧
  (∀ n < 128, s.pool.slot n = none → holders s n = 0) ∧
  (∀ r ∈ s.scenes, r.slot < 128) ∧
  (∀ e ∈ s.history.entries, ∀ n ∈ e.slot?, n < 128) ∧
  s.controller.current.slot < 128 ∧
  (∀ c ∈ s.controller.incoming, c.slot < 128) ∧
  (∀ e ∈ s.history.entries, editedSlot e ≠ some 0)

/-- The ranges of Table 3-1. -/
abbrev PrimaryOk (p : RGB Primary) : Prop :=
  ∀ c ∈ p.toList, -512 ≤ c.lift ∧ c.lift ≤ 511 ∧ c.gain ≤ 4095 ∧ c.curve < 16

/-- The ranges of Table 3-2. -/
abbrev VecOk (v : Vec) : Prop :=
  (∀ a ∈ v.lo.toList, a ≤ 4095) ∧ (∀ a ∈ v.hi.toList, a ≤ 4095) ∧
  (∀ o ∈ v.offset.toList, -1023 ≤ o ∧ o ≤ 1023) ∧
  (∀ q ∈ v.rect, q.x0 ≤ 719 ∧ q.x1 ≤ 719 ∧ q.y0 ≤ 575 ∧ q.y1 ≤ 575)

/-- The ranges of a grade record, and law L12 (R44, R45). -/
abbrev GradeOk (g : Grade) : Prop :=
  PrimaryOk g.primary ∧ g.vectors.length ≤ 6 ∧ ∀ v ∈ g.vectors, VecOk v

/-- The content of a grade entry is within the ranges (R59). -/
def entryOk : Entry → Bool
  | .primaryChanged _ p => decide (PrimaryOk p)
  | .vectorsChanged _ vs => decide (vs.length ≤ 6 ∧ ∀ v ∈ vs, VecOk v)
  | .sceneInserted _ => true
  | .sceneRemoved _ => true
  | .sceneChanged _ => true

/-- Every grade the engine holds is within its ranges, law L12 included (R44, R45, R59, R119). -/
abbrev GradesSound (s : State) : Prop :=
  (∀ o ∈ s.pool.slots, ∀ r ∈ o, GradeOk r.grade) ∧
  (∀ e ∈ s.history.entries, entryOk e = true) ∧
  GradeOk s.controller.current.copy ∧
  (∀ c ∈ s.controller.incoming, GradeOk c.copy) ∧
  GradeOk s.snapshot.current ∧
  (∀ g ∈ s.snapshot.incoming, GradeOk g)

/-! ## Frame follower, controller, detector (laws L5, L6, L7) -/

/-- Law L5 (R105): at most 3 entries, each due 1 to 3 fields ahead, in strictly increasing order. -/
abbrev ScheduleOk (count : Nat) (q : List Announced) : Prop :=
  q.length ≤ 3 ∧
  (∀ e ∈ q, e.first < 65536 ∧ 1 ≤ fieldDistance count e.first ∧ fieldDistance count e.first ≤ 3) ∧
  q.Pairwise (fun a b => fieldDistance count a.first < fieldDistance count b.first)

/-- Law L6 (R111), law L5 (R105) and the ranges of Tables 6-1, 6-3 and 6-5; with no lock, in the roll-call window or with no reel, no frame is placed (R107, R115, R116). -/
abbrev FollowerSound (s : State) : Prop :=
  s.follower.coast ≤ 8 ∧ s.follower.fieldCount < 65536 ∧
  ScheduleOk s.follower.fieldCount s.follower.schedule ∧
  (∀ e ∈ s.follower.schedule, 1 ≤ e.span ∧ e.span ≤ 3 ∧ ∃ q ∈ s.follower.reel, e.frame < q.length) ∧
  (∀ c ∈ s.follower.current,
    1 ≤ c.shown ∧ c.shown ≤ c.span ∧ c.span ≤ 3 ∧ ∃ q ∈ s.follower.reel, c.frame < q.length) ∧
  ((s.raster.locked = false ∨ s.rollCall ≠ none) →
    s.follower.schedule = [] ∧ s.follower.current = none)

/-- Law L7 (R120): k and N are 0 exactly in IDLE, and k lies in 1..N with N in 1..63 while RUNNING; no dissolve runs without lock (R133). -/
abbrev ControllerSound (s : State) : Prop :=
  (s.controller.incoming = none → s.controller.count = 0 ∧ s.controller.length = 0) ∧
  (s.controller.incoming ≠ none →
    1 ≤ s.controller.count ∧ s.controller.count ≤ s.controller.length ∧ s.controller.length ≤ 63) ∧
  (s.raster.locked = false → s.controller.incoming = none)

/-- The cut detector (Table 8-1): 16 bins, a reference that sums to S, a measure in 0..1024, a capture of a frame of the reel. -/
abbrev DetectorSound (s : State) : Prop :=
  s.detector.bins.length = 16 ∧
  (∀ r ∈ s.detector.reference,
    r.bins.length = 16 ∧ r.bins.sum = Config.fieldSamples s.straps.standard) ∧
  (∀ m ∈ s.detector.measure, m.value ≤ 1024) ∧
  (∀ c ∈ s.detector.capture, ∃ q ∈ s.follower.reel, c.frame < q.length)

/-! ## Stores, loader, profile (law L9) -/

/-- A curve: 257 points in 0..4096 (R27). -/
abbrev CurveOk (t : List Nat) : Prop := t.length = 257 ∧ ∀ v ∈ t, v ≤ 4096

/-- A shading table: 64 gains in 768..1280 (R29). -/
abbrev ShadingOk (t : List Nat) : Prop := t.length = 64 ∧ ∀ v ∈ t, 768 ≤ v ∧ v ≤ 1280

/-- What a target's table holds. -/
def tableOk (t : LoadTarget) (b : List Nat) : Bool :=
  match t with
  | .curve n => decide (1 ≤ n ∧ n < 16 ∧ CurveOk b)
  | .shadingH => decide (ShadingOk b)
  | .shadingV => decide (ShadingOk b)

/-- Law L9 (R27): curve 0 is the identity at all times; sixteen curves and two shading tables in their ranges, in the stores and in the loader (Table 2-1). -/
abbrev StoresSound (s : State) : Prop :=
  s.curves.length = 16 ∧ s.curves.head? = some identityCurve ∧ (∀ t ∈ s.curves, CurveOk t) ∧
  ShadingOk s.shadeH ∧ ShadingOk s.shadeV ∧
  (s.loader.state = .idle → s.loader = Loader.idle) ∧
  (s.loader.state ≠ .idle →
    ∃ t ∈ s.loader.target, tableOk t s.loader.buffer = true ∧ s.loader.pointer < s.loader.buffer.length) ∧
  (s.loader.state = .filling → s.loader.requester = none)

/-- The profile's ranges (R194, R145). -/
abbrev ProfileSound (s : State) : Prop :=
  (∀ row ∈ s.profile.matrix.toList, ∀ m ∈ row.toList, -512 ≤ m ∧ m ≤ 511) ∧
  s.profile.threshold ≤ 1024 ∧ 1 ≤ s.profile.minScene ∧ s.profile.minScene ≤ 255

/-! ## Video and raster (law L8) -/

/-- A pixel's codes lie in 64..940 (R22). -/
abbrev OutOk (q : OutPixel) : Prop := ∀ c ∈ q.code.toList, 64 ≤ c ∧ c ≤ 940

/-- Law L8 (R22): every code on the video output and in its delay lies in 64..940; the snapshot's weight keeps the blend between its two inputs (R20). -/
abbrev VideoSound (s : State) : Prop :=
  s.video.delay.length = 96 ∧ (∀ q ∈ s.video.delay, OutOk q) ∧ OutOk s.video.out ∧
  s.snapshot.weight ≤ 256

/-- Table 9-1: the runs' ranges, and the run that does not apply is 0 (R155); while the state is ROLLCALL or UNSYNC black is forced (R23). -/
abbrev RasterSound (s : State) : Prop :=
  s.raster.goodRun ≤ 3 ∧ s.raster.badRun ≤ 1 ∧
  (s.raster.locked = true → s.raster.goodRun = 0) ∧
  (s.raster.locked = false → s.raster.badRun = 0) ∧
  ((s.engineState = .rollcall ∨ s.engineState = .unsync) → s.forcedBlack = true)

/-! ## Cue line and roster (laws L10, L11) -/

/-- The sending order of R177: by class, then by joining order. -/
abbrev SendsBefore (a b : TxEntry) : Prop := a.cls < b.cls ∨ (a.cls = b.cls ∧ a.joined < b.joined)

/-- Law L10 (R177): 4 received cues, 8 queued, one PRESENT; the queue in sending order, attempts 0..3; the cue in flight and the deferred one are in the queue, never both. Law L11 (R179): nothing queued or sent while muted. LINE RESETs wait only behind a service (R172). -/
abbrev LineSound (s : State) : Prop :=
  s.line.fifo.length ≤ 4 ∧ s.line.tx.length ≤ 8 ∧
  s.line.tx.countP TxEntry.isPresent ≤ 1 ∧
  s.line.tx.Pairwise SendsBefore ∧
  s.line.tx.Pairwise (fun a b => a.joined ≠ b.joined) ∧
  (∀ e ∈ s.line.tx, e.joined < s.line.nextJoin ∧ e.attempts ≤ 3) ∧
  (∀ j ∈ s.line.inFlight, s.line.deferral = none ∧ s.line.idle = false ∧ ∃ e ∈ s.line.tx, e.joined = j) ∧
  (∀ d ∈ s.line.deferral, s.line.idle = true ∧ ∃ e ∈ s.line.tx, e.joined = d.joined) ∧
  (s.line.mute = true → s.line.tx = [] ∧ s.line.inFlight = none ∧ s.line.deferral = none) ∧
  (s.line.lineResets ≠ [] → s.line.fifo ≠ []) ∧
  (∀ c ∈ s.line.fifo, admissible s.straps.station c = true)

/-- The roster has 15 entries (R182), and the own entry, when the strap is valid, stays ENGINE (R183). -/
abbrev RosterSound (s : State) : Prop :=
  s.roster.length = 15 ∧ (s.straps.station ≠ 15 → s.role s.straps.station = some .engine)

/-- Every law, block by block. -/
abbrev Laws (s : State) : Prop :=
  HistoryBounded s ∧ ScenesSound s ∧ PoolSound s ∧ GradesSound s ∧ FollowerSound s ∧
  ControllerSound s ∧ DetectorSound s ∧ StoresSound s ∧ ProfileSound s ∧ VideoSound s ∧
  RasterSound s ∧ LineSound s ∧ RosterSound s

/-! ## What the statements speak of -/

/-- The cue whose service a command ends (R174); none for a command that is no service. -/
def serviceCue : Instr → Option Cue
  | .sceneMark src dst f g t n => some ⟨src, dst, .sceneMark f g t n⟩
  | .sceneClear src dst f => some ⟨src, dst, .sceneClear f⟩
  | .sceneSet src dst f g t n k => some ⟨src, dst, .sceneSet f g t n k⟩
  | .scenePurge src dst => some ⟨src, dst, .scenePurge⟩
  | .sceneQuery src dst m a => some ⟨src, dst, .sceneQuery m a⟩
  | .gradeNew src dst => some ⟨src, dst, .gradeNew⟩
  | .gradePrimary src dst n p => some ⟨src, dst, .gradePrimary n p⟩
  | .gradeVector src dst n p v => some ⟨src, dst, .gradeVector n p v⟩
  | .gradeVectorDelete src dst n p => some ⟨src, dst, .gradeVectorDelete n p⟩
  | .gradeDrop src dst n => some ⟨src, dst, .gradeDrop n⟩
  | .gradeQuery src dst n t p => some ⟨src, dst, .gradeQuery n t p⟩
  | .loadStart src dst k n a m => some ⟨src, dst, .loadStart k n a m⟩
  | .loadData src dst vs => some ⟨src, dst, .loadData vs⟩
  | .loadInstall src dst => some ⟨src, dst, .loadInstall⟩
  | .loadCancel src dst => some ⟨src, dst, .loadCancel⟩
  | .portRead src dst p => some ⟨src, dst, .portRead p⟩
  | .portWriteReportEnables src dst w => some ⟨src, dst, .portWrite 4 (bytesOf16 w)⟩
  | .portWriteFilmMode src dst m => some ⟨src, dst, .portWrite 5 [m]⟩
  | .portWriteMatrix src dst row k =>
    some ⟨src, dst, .portWrite (Channel.port row) (bytesOf16 k.r ++ bytesOf16 k.g ++ bytesOf16 k.b)⟩
  | .portWriteCutThreshold src dst v => some ⟨src, dst, .portWrite 9 (bytesOf16 v)⟩
  | .portWriteMinScene src dst v => some ⟨src, dst, .portWrite 10 (bytesOf16 v)⟩
  | .portWrite src dst p d => some ⟨src, dst, .portWrite p d⟩
  | .undo src dst => some ⟨src, dst, .undo⟩
  | .clearFaults src dst m => some ⟨src, dst, .clearFaults m⟩
  | .peerCut src dst r f m => some ⟨src, dst, .cut r f m⟩
  | .powerOnReset _ | .lineSync | .fieldSync _ | .missingSyncExpiry | .rollCallWindowEnd
  | .guardComplete _ | .reel .. | .frame .. | .present .. | .lineReset _ | .hold _ | .release _
  | .transmitStart | .deferralYield | .transmitAbandon | .transmitComplete | .pixelClock ..
  | .resetAsserted => none

/-- The command is one of the two that act on RESET (R154, R186). -/
abbrev IsReset (c : Instr) : Prop := c = .resetAsserted ∨ ∃ straps, c = .powerOnReset straps

/-- The engine runs and the cue is the FIFO's head, so that it is the entry in service (R173, R174). -/
abbrev AtHead (c : Cue) (s : State) : Prop := s.resetHeld = false ∧ s.line.fifo.head? = some c

/-- A request that the handler hands to its owner: outside ROLLCALL, from a CONSOLE (R174). -/
abbrev Accepted (c : Cue) (s : State) : Prop :=
  AtHead c s ∧ s.engineState ≠ .rollcall ∧ s.role c.src = some .console

/-- The state with the FIFO's head gone, as its service ends (R173). -/
def served (s : State) : State := { s with line := { s.line with fifo := s.line.fifo.tail } }

/-- The end of a service that left `t`: its reply is queued, and the LINE RESETs that waited for it are taken (R172, R175). -/
def answered (c : Cue) (r : Result) (data : List Byte) (t : State) : State :=
  (t.reply c (some (r, data))).takeWaiting

/-- The service of `c` ends with a result alone and changes nothing else (R175, R176). -/
def RefusedWith (i : Instr) (c : Cue) (r : Result) (s : State) : Prop :=
  exec i s = .next (answered c r [] (served s))

/-- The commands run one after the other. -/
def runAll : List Instr → State → Option State
  | [], s => some s
  | c :: cs, s =>
    match exec c s with
    | .next t => runAll cs t
    | .fault _ => none
    | .refused _ => none

/-- The command is a pixel clock (R152). -/
abbrev IsPixelClock (c : Instr) : Prop :=
  ∃ red green blue line field parity, c = .pixelClock red green blue line field parity

/-- A field sync with this parity, taken in `s`, is a field boundary and leaves `t`: lock is held after it (R160). -/
abbrev Boundary (parity : Bool) (s t : State) : Prop :=
  s.resetHeld = false ∧ exec (.fieldSync parity) s = .next t ∧ t.raster.locked = true

/-- At the boundary from `s` to `t`, `x` is what the controller's work leaves of the followed state, and the detector's firing, when it fires, before or after it (R147; the order is free, log 7). -/
def FollowedWork (s t x : State) : Prop :=
  let u : State := { s with raster := t.raster, video := t.video }
  let followed : State := { u.followBoundary with freeCount := t.freeCount }
  (u.firing = none → x = followed.controllerBoundary u.arrives) ∧
  (∀ m, u.firing = some m →
    x = (followed.fire m).controllerBoundary u.arrives ∨
    x = (followed.controllerBoundary u.arrives).fire m)

/-- The line count is one of the two of a good field (Table 9-2). -/
abbrev GoodCount (std : Standard) (n : Nat) : Prop :=
  (std = .s525 ∧ (n = 262 ∨ n = 263)) ∨ (std = .s625 ∧ (n = 312 ∨ n = 313))

/-- From `s` to `t` the history took one push of `e` (R87): at 16 entries the oldest is gone and the complete flag clear. -/
abbrev Pushed (e : Entry) (s t : State) : Prop :=
  if s.history.entries.length < 16 then
    t.history = ⟨s.history.entries ++ [e], s.history.complete⟩
  else t.history = ⟨s.history.entries.tail ++ [e], false⟩

/-- The grade an allocated slot holds. -/
def gradeOf (s : State) (n : Nat) : Option Grade := (s.pool.slot n).map (·.grade)

/-- A context's mark after slot `n` has been written (R58). -/
def markedBy (n : Nat) (c : Context) : Context := { c with mark := c.mark || c.slot == n }

/-- The codes of the pixel sampled at the n-th clock of the present line: those of the graded picture in the active window, 64 outside it and under forced black (R22, R23, R25). -/
def codesAt (s : State) (n : Nat) (p : RGB Int) : RGB Nat :=
  match pixelNumber n, fieldLine s.straps.standard s.raster.lineCount with
  | some x, some l =>
    if s.forcedBlack then RGB.all 64
    else pixelCodes s.snapshot s.straps.standard x (2 * l + (if s.video.parity then 1 else 0)) p
  | _, _ => RGB.all 64

/-- The controller's contexts and counts after the count of R123: a running dissolve goes on or completes. -/
def counted (c : Controller) : Controller :=
  match c.incoming with
  | none => c
  | some i =>
    if c.count + 1 ≤ c.length then { c with count := c.count + 1 }
    else { c with current := i, incoming := none, length := 0, count := 0 }

/-- The controller after a running dissolve has been completed (R123, R124, R133). -/
def completed (c : Controller) : Controller :=
  match c.incoming with
  | none => c
  | some i => { c with current := i, incoming := none, length := 0, count := 0 }

/-- The two contexts after the refresh of R130. -/
def refreshed (s : State) (c : Controller) : Controller :=
  { c with
    current := c.current.refresh s.pool
    incoming := c.incoming.map (Context.refresh s.pool) }

/-- The check of R167 bit by bit: polynomial 1021h, initial value FFFFh, every byte taken most significant bit first. -/
def serialCheck (bytes : List Byte) : BitVec 16 :=
  (bytes.flatMap (fun b => (List.range 8).map (fun i => b.getLsbD (7 - i)))).foldl
    (fun check bit => (check <<< 1) ^^^ (if check.msb != bit then 0x1021 else 0)) 0xFFFF

/-- The frame is the whole of one cue of the format (R167, R168), with no framing error. -/
abbrev IsCue (f : Frame) (kind : Byte) (dst src : Station) (payload : List Byte) : Prop :=
  f.framingError = false ∧ f.bytes = cueBytes kind dst src payload ∧ payload.length ≤ 24 ∧
  kind.toNat < 64 ∧ permittedLength kind payload.length ≠ some false

end Sys2Proof.Safety
end

