-- ==== Sys2Proof/Certificates/Slice0/Obligations.lean ====
section
/-! DEFINITION. The statements for the provers. Each says in its docstring which rules of spec/ it formalises, or which choice of the model (log n is notes/assumptions/n.md). -/

open Sys2Proof Sys2Proof.Machine Sys2Proof.Safety

/-! ## The queue of commands -/

/-- A step runs the command at the front of the queue, on the state with the queue's rest (log 14). -/
def Obligations.StepRunsFrontCommand : Prop :=
  ∀ (c : Instr) (rest : List Instr) (s : State),
    step { s with pending := c :: rest } = exec c { s with pending := rest }

/-- Every command runs to a next state, in every state, and neither reads nor writes the queue of waiting commands (log 14; the spec gives every event an outcome, and none stops the engine). As many steps as commands wait therefore empty the queue, and every further step leaves the state as it is: the block idles (log 15, the model's choice). -/
def Obligations.EveryCommandRuns : Prop :=
  (∀ (c : Instr) (s : State), ∃ t, exec c s = .next t ∧ t.pending = s.pending ∧
    ∀ q : List Instr, exec c { s with pending := q } = .next { t with pending := q }) ∧
  (∀ s : State, ∃ t : State, t.pending = [] ∧
    ∀ k : Nat, Host.Core.run Sys2Proof.core (s.pending.length + k) s = .next t)

/-! ## Resets -/

/-- RESET_ASSERTED: the output port drives code 64 with no sync, ATTN is released, and nothing is received, queued or in flight; while RESET is held every command but the two of RESET leaves the state (R154, R186, R191; what the lost state reads as is log 12, and that the queue of waiting commands stays is log 25). -/
def Obligations.ResetHeld : Prop :=
  (∀ s : State, ∃ t, exec .resetAsserted s = .next t ∧ t.resetHeld = true ∧
    t.attnDriven = false ∧ t.video.out = ⟨⟨64, 64, 64⟩, false, false, false⟩ ∧
    t.line.fifo = [] ∧ t.line.tx = [] ∧ t.onLine = none ∧ t.pending = s.pending) ∧
  (∀ (c : Instr) (s : State), ¬ IsReset c → s.resetHeld = true → exec c s = .next s)

/-- POWER_ON_RESET gives every item its power-on value, whatever the state was, with the straps as read: STATION 15 ends it muted, with ADDRESS set and nothing queued; any other STATION with the PRESENT with ask queued alone. The window's count in pixel clocks is the reading of log 10, and that the queue of waiting commands stays is log 25 (R6, R27, R29, R30, R47, R68, R85, R95, R101, R122, R154, R155, R181, R182, R185, R186, R189, R192, R194, Tables 6-1, 7-1, 8-1). -/
def Obligations.PowerOnValues : Prop :=
  ∀ (straps : Straps) (s : State), ∃ t, exec (.powerOnReset straps) s = .next t ∧
    t.straps = straps ∧ t.resetHeld = false ∧ t.pending = s.pending ∧
    t.raster.locked = false ∧ t.raster.lineCount = 0 ∧ t.raster.fieldOpen = false ∧
    t.raster.goodRun = 0 ∧ t.raster.badRun = 0 ∧ t.raster.sinceStart = 0 ∧
    t.video.parity = false ∧ t.video.out = ⟨⟨64, 64, 64⟩, false, false, false⟩ ∧
    t.video.delay.length = 96 ∧ (∀ q ∈ t.video.delay, q = ⟨⟨64, 64, 64⟩, false, false, false⟩) ∧
    t.engineState = .rollcall ∧ t.forcedBlack = true ∧
    t.curves.length = 16 ∧
    (∀ c ∈ t.curves, c.length = 257 ∧ ∀ i < 257, c.getD i 0 = 16 * i) ∧
    t.shadeH.length = 64 ∧ (∀ g ∈ t.shadeH, g = 1024) ∧
    t.shadeV.length = 64 ∧ (∀ g ∈ t.shadeV, g = 1024) ∧
    t.snapshot.filmMode = .positive ∧
    t.snapshot.matrix = ⟨⟨256, 0, 0⟩, ⟨0, 256, 0⟩, ⟨0, 0, 256⟩⟩ ∧
    t.snapshot.shadeH = t.shadeH ∧ t.snapshot.shadeV = t.shadeV ∧ t.snapshot.curves = t.curves ∧
    t.snapshot.current = ⟨⟨⟨0, 1024, 0⟩, ⟨0, 1024, 0⟩, ⟨0, 1024, 0⟩⟩, []⟩ ∧
    t.snapshot.incoming = none ∧
    t.loader.state = .idle ∧ t.loader.target = none ∧ t.loader.requester = none ∧
    t.pool.slots.length = 128 ∧ t.pool.slot 0 = some ⟨t.snapshot.current, 0⟩ ∧
    (∀ n, n ≠ 0 → t.pool.slot n = none) ∧
    t.scenes = [⟨0, 0, .cut, 1, .console, true⟩] ∧
    t.history.entries = [] ∧ t.history.complete = true ∧
    t.follower = ⟨none, 0, [], none, 0, false, false⟩ ∧
    t.controller = ⟨⟨0, t.snapshot.current, false⟩, none, 0, 0, 0, false⟩ ∧
    t.detector.bins.length = 16 ∧ (∀ n ∈ t.detector.bins, n = 0) ∧
    t.detector.capture = none ∧ t.detector.reference = none ∧ t.detector.measure = none ∧
    t.line.fifo = [] ∧ t.line.inFlight = none ∧ t.line.deferral = none ∧
    t.line.mute = decide (straps.station = 15) ∧
    t.line.tx.map (·.cue) = (if straps.station = 15 then [] else [⟨15, .present true⟩]) ∧
    (∀ a : Station, t.role a = if a = straps.station ∧ a ≠ 15 then some .engine else none) ∧
    t.rollCall = some 6750000 ∧
    (∀ l : Latch, t.held l = true ↔ l = .address ∧ straps.station = 15) ∧
    (∀ l : Latch, t.reports l = true) ∧ t.reportsCut = true ∧ t.reportsSceneEntered = true ∧
    t.profile = ⟨.positive, .positive, t.snapshot.matrix, 300, 12⟩

/-- Every law holds in the state a power-on reset leaves, whatever the straps and the state before, and in `State.reset` (laws L1 to L12 and the tables' ranges; the straps `State.reset` reads are log 13, and what an IDLE loader's buffer, pointer and mode read as is log 23). -/
def Obligations.PowerOnMeetsLaws : Prop :=
  (∀ (straps : Straps) (s t : State), exec (.powerOnReset straps) s = .next t → Laws t) ∧
  Laws State.reset

/-- Only the power-on reset reads the straps and ends the mute: every other command keeps the straps, and the mute once set stays set until RESET acts (R179, R181, R187). -/
def Obligations.OnlyPowerOnReadsStraps : Prop :=
  ∀ (c : Instr) (s t : State), exec c s = .next t →
    ((∀ straps, c ≠ .powerOnReset straps) → t.straps = s.straps) ∧
    (¬ IsReset c → t.resetHeld = s.resetHeld) ∧
    (¬ IsReset c → s.line.mute = true → t.line.mute = true)

/-! ## Laws that every step keeps -/

/-- Laws L1, L2 and L4, with the history that UNDO can walk back through: kept by every step of a state whose follower and detector are sound (R64, R65, R66, R82, R84, R88). -/
def Obligations.StepKeepsScenes : Prop :=
  ∀ s t : State, ScenesSound s → HistoryBounded s → FollowerSound s → DetectorSound s →
    step s = .next t → ScenesSound t ∧ HistoryBounded t

/-- Law L3: every count of slots 1..127 is the number of its holders, none names a free slot, slot 0 holds the flat grade, and no grade entry of the history names slot 0; kept by every step of a state whose table and history are sound (R46, R47, R49, R52, R86, R121). -/
def Obligations.StepKeepsPool : Prop :=
  ∀ s t : State, PoolSound s → ScenesSound s → step s = .next t → PoolSound t

/-- Law L12 and the ranges of Tables 3-1 and 3-2, in slots, history entries, contexts and snapshot: kept by every step (R44, R45, R53, R59, R119). -/
def Obligations.StepKeepsGrades : Prop :=
  ∀ s t : State, GradesSound s → step s = .next t → GradesSound t

/-- Laws L5, L6 and L7 and the ranges of Tables 6-1, 6-3, 6-5, 7-1 and 8-1: kept by every step of a state whose table is sound (R105, R107, R111, R115, R116, R120, R133, R142, R144). -/
def Obligations.StepKeepsFollowing : Prop :=
  ∀ s t : State, FollowerSound s → ControllerSound s → DetectorSound s → ScenesSound s →
    step s = .next t → FollowerSound t ∧ ControllerSound t ∧ DetectorSound t

/-- Laws L8 and L9 and the ranges of Tables 2-1 and 9-1 and of the profile: curve 0 stays the identity, every code that leaves the output lies in 64..940, ROLLCALL and UNSYNC are black; kept by every step of a state whose controller and table are sound. What an IDLE loader's buffer, pointer and mode read as is log 23 (R22, R23, R27, R29, R30, R155, R194). -/
def Obligations.StepKeepsPicture : Prop :=
  ∀ s t : State, StoresSound s → ProfileSound s → VideoSound s → RasterSound s →
    ControllerSound s → ScenesSound s → step s = .next t →
    StoresSound t ∧ ProfileSound t ∧ VideoSound t ∧ RasterSound t

/-- Laws L10 and L11 and the roster's shape: at most 4 received cues, 8 queued, one PRESENT, the queue in sending order, nothing queued while muted, the own entry ENGINE; kept by every step (R165, R166, R172, R173, R177, R179, R182, R183). -/
def Obligations.StepKeepsLine : Prop :=
  ∀ s t : State, LineSound s → RosterSound s → step s = .next t → LineSound t ∧ RosterSound t

/-! ## What only some commands change -/

/-- The snapshot is renewed by a field boundary and by nothing else but RESET; then each item is as its owner leaves it at that boundary, the film mode the one requested before it (R3, R4, R5, R130, R194). -/
def Obligations.SnapshotOnlyAtBoundary : Prop :=
  ∀ (c : Instr) (s t : State), s.resetHeld = false → ¬ IsReset c → exec c s = .next t →
    if (∃ p, c = .fieldSync p) ∧ t.raster.locked = true then
      t.snapshot.filmMode = s.profile.filmRequested ∧ t.snapshot.matrix = s.profile.matrix ∧
      t.snapshot.shadeH = t.shadeH ∧ t.snapshot.shadeV = t.shadeV ∧ t.snapshot.curves = t.curves ∧
      t.snapshot.current = t.controller.current.copy ∧
      t.snapshot.incoming = t.controller.incoming.map (·.copy) ∧
      (t.controller.incoming ≠ none →
        t.snapshot.weight = 256 * t.controller.count / (t.controller.length + 1))
    else t.snapshot = s.snapshot

/-- Curves and shading tables change at a field boundary with a pending install alone: the buffer replaces the target whole, the other tables stay, the loader goes IDLE with no target and no requester, and the requester's DONE, with the target and the new field's number, is offered to the queue that the controller and the detector leave, after all their offers (log 9), so that it joins where that queue has room; an install with no requester offers nothing. The orders and FAULTs before it are those of logs 7, 30, 33 and 34 (R27, R39, R40, R178). -/
def Obligations.InstallAtBoundary : Prop :=
  (∀ (c : Instr) (s t : State), ¬ IsReset c → exec c s = .next t →
    ((∃ p, c = .fieldSync p) ∧ t.raster.locked = true ∧ s.loader.state = .installPending) ∨
    (t.curves = s.curves ∧ t.shadeH = s.shadeH ∧ t.shadeV = s.shadeV)) ∧
  (∀ (p : Bool) (s t : State) (target : LoadTarget), Boundary p s t → StoresSound s →
    s.loader.state = .installPending → s.loader.target = some target →
    (∀ other, t.tableOf other = if other = target then s.loader.buffer else s.tableOf other) ∧
    t.loader.state = .idle ∧ t.loader.target = none ∧ t.loader.requester = none ∧
    ∃ x : State, FollowedWork s t x ∧
      (s.loader.requester = none → t.line = x.line ∧ t.latches = x.latches) ∧
      (∀ a ∈ s.loader.requester, ∃ done : TxCue, done =
          ⟨a, .reply 0x22 .done (target.bytes ++ natBytes ((s.follower.fieldCount + 1) % 65536))⟩ ∧
        t.line = (x.offer done).line ∧ t.latches = (x.offer done).latches ∧
        (s.line.mute = false → x.line.tx.length < 8 →
          ∃ e ∈ t.line.tx, e.cue = done)))

/-- A latch that is held stays held until RESET acts, a CLEAR FAULTS that names it is served, or a line reset is taken, which clears all eight; it is told by the roll-call window that it starts afresh, in the count of log 10 (R189). -/
def Obligations.LatchesStayHeld : Prop :=
  ∀ (c : Instr) (s t : State) (l : Latch), exec c s = .next t →
    s.held l = true → t.held l = false →
    IsReset c ∨
    (∃ src dst mask, c = .clearFaults src dst mask ∧ mask.getLsbD l.index = true) ∨
    (t.latches = 0 ∧ t.rollCall = some 6750000 ∧ t.roster = ownRoster s.straps.station ∧
      t.line.fifo = [])

/-! ## The request handler and the cue line -/

/-- The handler's own tests: in ROLLCALL every request is answered WRONG_STATE, and outside it a request from a source that is no CONSOLE is answered DENIED; it has no other effect, and a CUT cue draws no answer in ROLLCALL or from a source that is no ENGINE (R149, R174, R185). -/
def Obligations.HandlerRefusals : Prop :=
  ∀ (i : Instr) (c : Cue) (s : State), serviceCue i = some c → AtHead c s →
    ((∀ r f m, c.body ≠ .cut r f m) →
      (s.engineState = .rollcall → RefusedWith i c .wrongState s) ∧
      (s.engineState ≠ .rollcall → s.role c.src ≠ some .console → RefusedWith i c .denied s)) ∧
    (∀ r f m, c.body = .cut r f m →
      (s.engineState = .rollcall ∨ s.role c.src ≠ some .engine) →
      exec i s = .next (served s).takeWaiting)

/-- The model's choice (log 1): a service command whose cue is not the FIFO's head leaves a running engine as it is; on an empty FIFO it acts as if its cue had just joined, when the receiver would have let it in. -/
def Obligations.ServiceNeedsItsCue : Prop :=
  ∀ (i : Instr) (c : Cue) (s : State), serviceCue i = some c → s.resetHeld = false →
    (s.line.fifo ≠ [] → s.line.fifo.head? ≠ some c → exec i s = .next s) ∧
    (s.line.fifo = [] → s.line.lineResets = [] →
      exec i s = if admissible s.straps.station c then
        exec i { s with line := { s.line with fifo := [c] } } else .next s)

/-- What the end of a service sends and takes: a request to one station draws one REPLY of class 2, to its source, with its kind code, result and data, and one to station 15 none; with no LINE RESET waiting nothing else happens, and a waiting one from a CONSOLE empties FIFO and queue but for the own PRESENT, clears the latches, opens the roll-call window, forces black, empties the loader, and leaves of the follower the reel and the field count, with every other effect of Table 11-4 and no other. Its role is tested when it is taken (log 29), and the window's count is log 10 (R172, R175, R180). -/
def Obligations.ServiceEnd : Prop :=
  ∀ (c : Cue) (r : Result) (data : List Byte) (t : State),
    (t.line.lineResets = [] → c.dst = 15 → answered c r data t = t) ∧
    (t.line.lineResets = [] → c.dst ≠ 15 →
      answered c r data t = t.offer ⟨c.src, .reply (requestKind c.body) r data⟩ ∧
      (TxBody.reply (requestKind c.body) r data).cls = 2) ∧
    ((∃ a ∈ t.line.lineResets, t.role a = some .console) →
      (answered c r data t).line.fifo = [] ∧ (answered c r data t).line.lineResets = [] ∧
      (answered c r data t).line.tx.map (·.cue) =
        (if t.line.mute then [] else [⟨15, .present false⟩]) ∧
      (answered c r data t).latches = 0 ∧ (answered c r data t).rollCall = some 6750000 ∧
      (answered c r data t).roster = ownRoster t.straps.station ∧
      (answered c r data t).forcedBlack = true ∧
      (answered c r data t).loader.state = .idle ∧ (answered c r data t).loader.target = none ∧
      (answered c r data t).loader.requester = none ∧
      (answered c r data t).follower = { t.follower with
        schedule := [], current := none, coast := 0, holdConsole := false, holdCoast := false } ∧
      (answered c r data t).line.inFlight = none ∧ (answered c r data t).line.mute = t.line.mute ∧
      (∀ e ∈ (answered c r data t).line.tx, e.attempts = 0) ∧
      { answered c r data t with
        roster := t.roster, latches := t.latches, rollCall := t.rollCall
        forcedBlack := t.forcedBlack, loader := t.loader, follower := t.follower
        line := t.line } = t)

/-- LINE_RESET: taken from a CONSOLE when no service runs, with every effect of Table 11-4 and no other; ignored from any other station; kept for the service's end when one runs. One runs while the FIFO is not empty (log 2), the role is tested at the taking (log 29), and the window's count is log 10 (R116, R172, R180, R185, R188, R189, R42). -/
def Obligations.LineResetEffects : Prop :=
  ∀ (src : Station) (s : State), s.resetHeld = false →
    if s.line.fifo ≠ [] then
      exec (.lineReset src) s =
        .next { s with line := { s.line with lineResets := s.line.lineResets ++ [src] } }
    else if s.role src ≠ some .console then exec (.lineReset src) s = .next s
    else ∃ t, exec (.lineReset src) s = .next t ∧
      (∀ a : Station, t.role a = if a = s.straps.station ∧ a ≠ 15 then some .engine else none) ∧
      t.authority = none ∧ t.latches = 0 ∧ t.rollCall = some 6750000 ∧ t.forcedBlack = true ∧
      t.loader.state = .idle ∧ t.loader.target = none ∧ t.loader.requester = none ∧
      t.follower = { s.follower with
        schedule := [], current := none, coast := 0, holdConsole := false, holdCoast := false } ∧
      t.line.fifo = [] ∧ t.line.inFlight = none ∧ t.line.mute = s.line.mute ∧
      t.line.tx.map (·.cue) = (if s.line.mute then [] else [⟨15, .present false⟩]) ∧
      (∀ e ∈ t.line.tx, e.attempts = 0) ∧
      { t with
        roster := s.roster, latches := s.latches, rollCall := s.rollCall
        forcedBlack := s.forcedBlack, loader := s.loader, follower := s.follower
        line := s.line } = s

/-- The end of a guard after nothing heard, or after the very cue that the engine sent whole: the engine contends with the first cue of its queue, class × 15 + station number slots; muted or with an empty queue it does not. With a cue of its own on the line no guard completes (R164, R165, R166, R179; the last is log 4). -/
def Obligations.GuardStartsDeferral : Prop :=
  ∀ (heard : Option Frame) (s : State), s.resetHeld = false →
    (s.line.inFlight = none →
      (∀ f ∈ heard, f.framingError = false ∧ s.line.sentWhole = some f.bytes) →
      exec (.guardComplete heard) s = .next { s with line := { s.line with
        idle := true, sentWhole := none
        deferral := if s.line.mute then none else
          s.line.tx.head?.map (fun e => ⟨e.joined, e.cls * 15 + s.straps.station.toNat⟩) } }) ∧
    (s.line.inFlight ≠ none → exec (.guardComplete heard) s = .next s)

/-- TRANSMIT_START, DEFERRAL_YIELD, TRANSMIT_COMPLETE, TRANSMIT_ABANDON: the chosen cue starts; a start heard ends the deferral and makes the line busy, with or without a deferral (log 5); a cue sent whole leaves the queue, its bytes held until the guard; an abandoned one stays with its count raised, and after the fourth attempt is discarded with LINE_CHECK set. Where the event cannot occur the engine stays as it is (log 11). The cue in flight is driven as Table 10-3 lays it out, with its kind, the own station as source, the payload of Table 10-9 and the check; nothing is driven with none in flight (R165, R166, R167, R170, R171, R177, R179). -/
def Obligations.TransmitterCommands : Prop :=
  ∀ s : State, s.resetHeld = false → LineSound s →
    (∀ d, s.line.deferral = some d →
      exec .transmitStart s = .next { s with line := { s.line with
        inFlight := some d.joined, deferral := none, idle := false, sentWhole := none } }) ∧
    (s.line.deferral = none → exec .transmitStart s = .next s) ∧
    exec .deferralYield s = .next { s with line := { s.line with idle := false, deferral := none } } ∧
    (∀ e ∈ s.line.tx, s.line.inFlight = some e.joined →
      exec .transmitComplete s = .next { s with line := { s.line with
        tx := s.line.tx.filter (fun x => x ≠ e), inFlight := none, sentWhole := s.onLine } } ∧
      (e.attempts < 3 → exec .transmitAbandon s = .next { s with line := { s.line with
        tx := s.line.tx.map (fun x => if x = e then { e with attempts := e.attempts + 1 } else x)
        inFlight := none } }) ∧
      (e.attempts = 3 → ∃ t, exec .transmitAbandon s = .next t ∧ t.held .lineCheck = true ∧
        e ∉ t.line.tx ∧ (∀ x ∈ s.line.tx, x ≠ e → x ∈ t.line.tx) ∧ t.line.inFlight = none ∧
        t.line.fifo = s.line.fifo ∧
        { t with line := s.line, latches := s.latches } = s)) ∧
    (s.line.inFlight = none → s.onLine = none ∧
      exec .transmitComplete s = .next s ∧ exec .transmitAbandon s = .next s) ∧
    (∀ e ∈ s.line.tx, s.line.inFlight = some e.joined → ∃ (kind : Byte) (payload body : List Byte),
      (match e.cue.body with
      | .reply request result data => kind = 0x2F ∧ payload = request :: (match result with
          | .done => 0 | .doneClamped => 1 | .busy => 2 | .full => 3 | .notFound => 4
          | .exists => 5 | .inUse => 6 | .empty => 7 | .readOnly => 8 | .denied => 9
          | .noReel => 10 | .outOfReel => 11 | .wrongState => 12 | .cancelled => 13) :: data
      | .fault newly held => kind = 0x0B ∧ payload = [newly, held]
      | .cut reel frame measure => kind = 0x30 ∧
          payload = natBytes reel ++ natBytes frame ++ natBytes measure
      | .sceneEntered reel start frame slot made length field => kind = 0x31 ∧
          payload = natBytes reel ++ natBytes start ++ natBytes frame ++
            [byteOf slot, if made = .cut then 0 else 1, byteOf length] ++ natBytes field
      | .present ask => kind = 0x38 ∧ payload = [5, if ask then 1 else 0]) ∧
      body = [kind, byteOf (16 * e.cue.dst.toNat + s.straps.station.toNat),
        byteOf payload.length] ++ payload ∧
      s.onLine = some (body ++ natBytes (serialCheck body).toNat))

/-- An offer to the transmit queue. Muted, it is discarded. With room, the cue takes its place after every cue of its class or a lower one and before the others. On a full queue with TX_OVERFLOW held or its report off, the youngest cue of a strictly higher class, the one in flight left out, gives way, or the new cue is lost when there is none; TX_OVERFLOW is held after it. When TX_OVERFLOW is clear and reported, its FAULT is then offered to the same full queue. A deferral whose cue stays goes on; on a line idle beyond a guard a cue that becomes first with no deferral running starts its own at once, and so does the first cue after the one deferred for was replaced, the new cue in its place (log 34) (R165, R177, R178, R179, R191). -/
def Obligations.QueueOffer : Prop :=
  ∀ (c : TxCue) (s : State), LineSound s →
    (s.line.mute = true → s.offer c = s) ∧
    (s.line.mute = false → s.line.tx.length < 8 →
      (∃ a b, s.line.tx = a ++ b ∧ (s.offer c).line.tx = a ++ ⟨c, s.line.nextJoin, 0⟩ :: b ∧
        (∀ x ∈ a, x.cls ≤ c.body.cls) ∧ (∀ x ∈ b, c.body.cls < x.cls)) ∧
      (s.offer c).latches = s.latches) ∧
    (s.line.mute = false → s.line.tx.length = 8 →
      (s.held .txOverflow = true ∨ s.reports .txOverflow = false) →
      (s.offer c).latches = s.latches ||| 4 ∧
      (∀ v ∈ s.line.tx, c.body.cls < v.cls → some v.joined ≠ s.line.inFlight →
        (∀ x ∈ s.line.tx, c.body.cls < x.cls → some x.joined ≠ s.line.inFlight →
          x.joined ≤ v.joined) →
        ∃ a b, s.line.tx.filter (fun x => x ≠ v) = a ++ b ∧
          (s.offer c).line.tx = a ++ ⟨c, s.line.nextJoin, 0⟩ :: b ∧
          (∀ x ∈ a, x.cls ≤ c.body.cls) ∧ (∀ x ∈ b, c.body.cls < x.cls)) ∧
      ((∀ v ∈ s.line.tx, c.body.cls < v.cls → some v.joined = s.line.inFlight) →
        (s.offer c).line = s.line)) ∧
    (s.line.mute = false → s.line.tx.length = 8 →
      s.held .txOverflow = false → s.reports .txOverflow = true →
      s.offer c = State.offer ⟨15, .fault 4 (s.latches ||| 4)⟩
        (State.offer c { s with latches := s.latches ||| 4 })) ∧
    (s.line.mute = false →
      s.line.tx.length < 8 ∨ s.held .txOverflow = true ∨ s.reports .txOverflow = false →
      (∀ d ∈ s.line.deferral, (∃ e ∈ (s.offer c).line.tx, e.joined = d.joined) →
        (s.offer c).line.deferral = some d) ∧
      ((∀ d ∈ s.line.deferral, ∀ e ∈ (s.offer c).line.tx, e.joined ≠ d.joined) →
        (s.offer c).line.tx ≠ s.line.tx →
        (s.offer c).line.deferral =
          if s.line.idle = true ∧ s.line.inFlight = none then
            (s.offer c).line.tx.head?.map
              (fun e => ⟨e.joined, e.cls * 15 + s.straps.station.toNat⟩)
          else none))

/-- A latch's event: a latch that is held stays as it is, with nothing offered; a clear one is set, and where its report is on, the transmitter not muted and the queue not full, a FAULT to all stations joins the queue with the latch newly set and every latch then held. ATTN is driven exactly while RESET is not held and a latch is held whose report is on (R189, R191, R192). -/
def Obligations.LatchReports : Prop :=
  (∀ (l : Latch) (s : State),
    (s.held l = true → s.raise l = s) ∧
    (s.held l = false →
      (s.raise l).held l = true ∧
      (∀ k, k ≠ l → k ≠ .txOverflow → (s.raise l).held k = s.held k) ∧
      (s.reports l = false → (s.raise l).line = s.line ∧ (s.raise l).held .txOverflow =
        (s.held .txOverflow || l == .txOverflow)) ∧
      (s.reports l = true → s.line.mute = false → s.line.tx.length < 8 →
        (s.raise l).latches = s.latches ||| l.bit ∧
        ∃ e ∈ (s.raise l).line.tx, e.cue = ⟨15, .fault l.bit (s.latches ||| l.bit)⟩ ∧
          e.cls = 1))) ∧
  (∀ s : State, s.attnDriven = true ↔
    s.resetHeld = false ∧ ∃ l, s.held l = true ∧ s.reports l = true)

/-- The receiver's tests, on a frame heard while the engine sends nothing that is not, byte for byte, the cue it has itself sent whole: a frame that is no cue of the format is discarded with LINE_CHECK; one with the engine's own number as source sets ADDRESS and the mute; one from 15, to another station, or of a kind the engine does not act on is ignored, as if nothing had been heard. None of them touches more than the line and the latches, or reaches the FIFO. A request or CUT that passes them joins the FIFO behind the cues held, and is discarded with RX_OVERRUN when it holds 4 (R167, R168, R171, R172, R173, R179, R187; the count of free choices is the model's own). -/
def Obligations.ReceiverTests : Prop :=
  (∀ (f : Frame) (s : State), s.resetHeld = false → s.line.inFlight = none →
      f.framingError = true ∨ s.line.sentWhole ≠ some f.bytes →
      ((¬ ∃ kind dst src payload, IsCue f kind dst src payload) →
        ∃ t, exec (.guardComplete (some f)) s = .next t ∧ t.held .lineCheck = true ∧
          t.line.fifo = s.line.fifo ∧ t.line.mute = s.line.mute ∧
          { t with line := s.line, latches := s.latches, freeCount := s.freeCount } = s) ∧
      (∀ (kind : Byte) (dst src : Station) (payload : List Byte), IsCue f kind dst src payload →
        (src = s.straps.station →
          ∃ t, exec (.guardComplete (some f)) s = .next t ∧ t.held .address = true ∧
            t.line.mute = true ∧ t.line.tx = [] ∧ t.line.deferral = none ∧
            t.line.fifo = s.line.fifo ∧
            { t with line := s.line, latches := s.latches, freeCount := s.freeCount } = s) ∧
        (src ≠ s.straps.station →
          src = 15 ∨ (dst ≠ s.straps.station ∧ dst ≠ 15) ∨ permittedLength kind payload.length = none ∨
            kind = 0x2F ∨ kind = 0x0B ∨ kind = 0x31 →
          exec (.guardComplete (some f)) s = exec (.guardComplete none) s))) ∧
  (∀ (src dst : Station) (r : Request) (s : State), s.resetHeld = false →
      s.line.inFlight = none → s.line.sentWhole ≠ some (frameOf src dst (.queued r)).bytes →
      src ≠ s.straps.station → src ≠ 15 → dst = s.straps.station ∨ dst = 15 →
      r.wellFormed = true →
      ∃ t, exec (.guardComplete (some (frameOf src dst (.queued r)))) s = .next t ∧
        t.line.fifo = (if s.line.fifo.length < 4 then s.line.fifo ++ [⟨src, dst, r⟩]
          else s.line.fifo) ∧
        (4 ≤ s.line.fifo.length → t.held .rxOverrun = true) ∧
        (s.line.fifo.length < 4 → t.latches = s.latches) ∧
        { t with line := s.line, latches := s.latches, freeCount := s.freeCount } = s)

/-- Every cue the engine acts on, sent by another station in a well-formed frame, is read back whole: a guard that completes after its frame acts on exactly the fields the sender put in, and then starts the deferral (Tables 10-3, 10-4, 10-5 and 10-9, R167, R168, R169, R170, R172). -/
def Obligations.FrameCarriesItsCue : Prop :=
  ∀ (src dst : Station) (a : Arrival) (s : State), s.resetHeld = false →
    s.line.inFlight = none → s.line.sentWhole ≠ some (frameOf src dst a).bytes →
    src ≠ s.straps.station → src ≠ 15 → dst = s.straps.station ∨ dst = 15 →
    (∀ r, a = .queued r → r.wellFormed = true) →
    exec (.guardComplete (some (frameOf src dst a))) s =
      .next (State.contendAtGuard s.line.tx.head? (State.takeArrival src dst a
        { s with line := { s.line with idle := false, deferral := none, sentWhole := none } }))

/-- PRESENT: the entry of its source takes the role its code names, OTHER for a code Table 11-3 does not name, and no other entry changes; an ask is answered by the own PRESENT without ask, unless one is queued already; the transport authority is the lowest-numbered TRANSPORT entry, or none (R96, R183, R184; a PRESENT given from the own number or 15 changes nothing, log 28). -/
def Obligations.PresentSetsRole : Prop :=
  (∀ (src : Station) (role ask : Byte) (s : State), s.resetHeld = false → s.roster.length = 15 →
    src ≠ s.straps.station → src ≠ 15 →
    ∃ t, exec (.present src role ask) s = .next t ∧
      (∀ a, a ≠ src → t.role a = s.role a) ∧
      t.role src = some (if role = 1 then .transport else if role = 2 then .scanner
        else if role = 3 then .recorder else if role = 4 then .console
        else if role = 5 then .engine else .other) ∧
      (ask = 0 ∨ s.line.tx.any TxEntry.isPresent = true →
        { t with roster := s.roster } = s) ∧
      (ask ≠ 0 → s.line.tx.any TxEntry.isPresent = false →
        { t with roster := s.roster } = s.offer ⟨15, .present false⟩)) ∧
  (∀ (src : Station) (role ask : Byte) (s : State), src = s.straps.station ∨ src = 15 →
    exec (.present src role ask) s = .next s) ∧
  (∀ (s : State) (n : Nat), s.authority = some n ↔
    s.roster[n]? = some (some .transport) ∧ ∀ m < n, s.roster[m]? ≠ some (some .transport))

/-! ## The picture -/

/-- LINE_SYNC then n pixel clocks, from any running state: the line count is one higher, and the n-th clock samples pixel n − 140 of field line (line number − first active line) exactly when 140 ≤ n < 860 and the line lies in 20..262 (525) or 23..310 (625) (R1, R152, R156; that the count starts over at LINE_SYNC is log 16, that line numbers are those counted since the last field sync or expiry is log 27, and that a line sync on a field sync's clock is given after it is log 32). -/
def Obligations.PixelPosition : Prop :=
  ∀ (cs : List Instr) (s : State), s.resetHeld = false → (∀ c ∈ cs, IsPixelClock c) →
    exec .lineSync s = .next { s with
      raster := { s.raster with lineCount := s.raster.lineCount + 1 }
      video := { s.video with clocksIntoLine := 0 } } ∧
    ∃ t, runAll (.lineSync :: cs) s = some t ∧
      t.raster.lineCount = s.raster.lineCount + 1 ∧ t.video.clocksIntoLine = cs.length ∧
      (∀ x l : Nat, t.activePixel = some (x, l) ↔
        cs.length = x + 140 ∧ x < 720 ∧
        ((s.straps.standard = .s525 ∧ s.raster.lineCount + 1 = l + 20 ∧ l ≤ 242) ∨
          (s.straps.standard = .s625 ∧ s.raster.lineCount + 1 = l + 23 ∧ l ≤ 287)))

/-- The output port presents, 96 pixel clocks after a pixel is sampled, the codes computed for it and the three sync inputs sampled with it: the graded picture's codes in the active window of a field that is not forced black, 64 elsewhere (R22, R23, R25, R152, R154; that black is decided when the pixel is sampled is log 18, that pixels are counted from LINE_SYNC is log 16, and that lines are those counted since the last field sync or expiry is log 27). -/
def Obligations.OutputLatency : Prop :=
  ∀ (red green blue : Sample) (lineSync fieldSync parity : Bool) (cs : List Instr) (s : State),
    s.resetHeld = false → s.video.delay.length = 96 → cs.length = 96 →
    (∀ c ∈ cs, IsPixelClock c) →
    ∃ t, runAll (.pixelClock red green blue lineSync fieldSync parity :: cs) s = some t ∧
      t.video.out = ⟨codesAt s (s.video.clocksIntoLine + 1) ⟨red.toNat, green.toNat, blue.toNat⟩,
        lineSync, fieldSync, parity⟩

/-- PIXEL_CLOCK counts one sample into bin floor(Y / 256), Y = floor((77 R + 150 G + 29 B + 128) / 256) of the masked pixel, exactly for the pixels of the sample grid in a field opened by a boundary under lock (the field-open mark tells it, so that none counts after an expiry under lock, log 19); it counts one clock into the line (log 16), keeps the parity, and touches nothing else but the delay with its output, the histogram and the two timers (R138, R139, R140, R153, R154, R157, R185; the timers' reading is log 10). -/
def Obligations.PixelClockCountsSamples : Prop :=
  ∀ (red green blue : Sample) (lineSync fieldSync parity : Bool) (s : State),
    s.resetHeld = false → s.detector.bins.length = 16 →
    ∃ t, exec (.pixelClock red green blue lineSync fieldSync parity) s = .next t ∧
      { t with
        video := s.video, raster := s.raster, rollCall := s.rollCall
        detector := { t.detector with bins := s.detector.bins } } = s ∧
      { t.video with
        delay := s.video.delay, out := s.video.out
        clocksIntoLine := s.video.clocksIntoLine } = s.video ∧
      t.video.parity = s.video.parity ∧
      t.video.clocksIntoLine = s.video.clocksIntoLine + 1 ∧
      { t.raster with sinceStart := s.raster.sinceStart } = s.raster ∧
      (t.rollCall = none ↔ s.rollCall = none) ∧ t.detector.bins.length = 16 ∧
      (∀ x l : Nat, t.activePixel = some (x, l) → s.raster.locked = true →
        s.raster.fieldOpen = true → x % 8 = 0 → l % 4 = 0 →
        l ≤ (if s.straps.standard = .s525 then 240 else 284) →
        ∃ m : RGB Int, m = masked s.snapshot s.straps.standard x
            (2 * l + (if s.video.parity then 1 else 0)) ⟨red.toNat, green.toNat, blue.toNat⟩ ∧
          ∃ b : Nat, b < 16 ∧ (b : Int) = (77 * m.r + 150 * m.g + 29 * m.b + 128) / 256 / 256 ∧
            t.detector.bins = s.detector.bins.set b (s.detector.bins.getD b 0 + 1)) ∧
      ((∀ x l : Nat, t.activePixel = some (x, l) → s.raster.locked = false ∨
        s.raster.fieldOpen = false ∨ x % 8 ≠ 0 ∨ l % 4 ≠ 0 ∨
        (if s.straps.standard = .s525 then 240 else 284) < l) →
        t.detector.bins = s.detector.bins)

/-- Stages 1 to 3 in the formulas of their rules, with floor as the floor of the exact quotient: shading, film inversion, masking, primary; each result is the exact value limited to 0..4095 (R2, R7, R8, R9, R10, R13). -/
def Obligations.StageFormulas : Prop :=
  (∀ (g h : Nat) (x : Int), shade g h x =
    max 0 (min 4095 ⌊((x * g * h + 524288 : Int) : ℚ) / 1048576⌋)) ∧
  (∀ (row a : RGB Int), maskRow row a =
    max 0 (min 4095 ⌊((row.r * a.r + row.g * a.g + row.b * a.b + 128 : Int) : ℚ) / 256⌋)) ∧
  (∀ (p : Primary) (m : Int), primaryStage p m =
    max 0 (min 4095 (⌊((m * p.gain + 512 : Int) : ℚ) / 1024⌋ + p.lift))) ∧
  (∀ (sn : Snapshot) (std : Standard) (x y : Nat) (p : RGB Int),
    ∃ a : RGB Int,
      a = p.map (fun v =>
        let v' := shade (sn.shadeH.getD ⌊(x * 64 : ℚ) / 720⌋.toNat 1024)
          (sn.shadeV.getD ⌊(y * 64 : ℚ) / (if std = .s525 then 486 else 576)⌋.toNat 1024) v
        if sn.filmMode = .negative then 4095 - v' else v') ∧
      masked sn std x y p =
        ⟨maskRow sn.matrix.r a, maskRow sn.matrix.g a, maskRow sn.matrix.b a⟩)

/-- Stages 4 and 5. The curve's value is T[i] + floor(((T[i+1] − T[i]) f + 8) / 16) limited to 0..4095, i and f the quotient and rest of the input by 16; it lies between the two points that bracket the input, limited to 4095, and equals the point itself at every sixteenth code; an identity curve passes every value unchanged. A lane is the secondary stage after the curves that its copy names channel by channel, after the primary stage. The first vector of the list whose box and rectangle hold the pixel gives its offsets, and no other does; with none the pixel passes unchanged (R12, R14, R15, R16, R17, R18). -/
def Obligations.LaneStages : Prop :=
  (∀ (t : List Nat) (p : Nat), p ≤ 4095 → t.length = 257 → (∀ v ∈ t, v ≤ 4096) →
    min 4095 (min (t.getD (p / 16) 0) (t.getD (p / 16 + 1) 0) : Int) ≤ curveStage t p ∧
    curveStage t p ≤ min 4095 (max (t.getD (p / 16) 0) (t.getD (p / 16 + 1) 0) : Int) ∧
    (p % 16 = 0 → curveStage t p = min 4095 (t.getD (p / 16) 0 : Int))) ∧
  (∀ (t : List Nat) (p : Nat), p ≤ 4095 → (∀ i ≤ 256, t.getD i 0 = 16 * i) →
    curveStage t p = p) ∧
  (∀ (t : List Nat) (p : Nat), p ≤ 4095 →
    curveStage t p = max 0 (min 4095 ((t.getD (p / 16) 0 : Int) +
      ⌊((((t.getD (p / 16 + 1) 0 : Int) - (t.getD (p / 16) 0 : Int)) * (p % 16 : Nat) + 8 : Int) : ℚ) /
        16⌋))) ∧
  (∀ (curves : List (List Nat)) (g : Grade) (x y : Nat) (m : RGB Int),
    lane curves g x y m = secondaryStage g.vectors x y
      ⟨curveStage (curves.getD g.primary.r.curve []) (primaryStage g.primary.r m.r),
        curveStage (curves.getD g.primary.g.curve []) (primaryStage g.primary.g m.g),
        curveStage (curves.getD g.primary.b.curve []) (primaryStage g.primary.b m.b)⟩) ∧
  (∀ (vs : List Vec) (x y : Nat) (q : RGB Int), ∃ hit : Vec → Prop,
      (∀ v, hit v ↔
        ((v.lo.r : Int) ≤ q.r ∧ q.r ≤ v.hi.r ∧ (v.lo.g : Int) ≤ q.g ∧ q.g ≤ v.hi.g ∧
          (v.lo.b : Int) ≤ q.b ∧ q.b ≤ v.hi.b) ∧
        ∀ k ∈ v.rect, k.x0 ≤ x ∧ x ≤ k.x1 ∧ k.y0 ≤ y ∧ y ≤ k.y1) ∧
      (∀ before v after, vs = before ++ v :: after → hit v → (∀ u ∈ before, ¬ hit u) →
        secondaryStage vs x y q = ⟨max 0 (min 4095 (q.r + v.offset.r)),
          max 0 (min 4095 (q.g + v.offset.g)), max 0 (min 4095 (q.b + v.offset.b))⟩) ∧
      ((∀ v ∈ vs, ¬ hit v) → secondaryStage vs x y q = q))

/-- Stage 6: with the controller IDLE the CURRENT lane's result passes unchanged, whatever the weight; while it is RUNNING the two lanes are mixed by the snapshot's weight, the result lying between them for every weight up to 256 (R19, R20). -/
def Obligations.BlendStage : Prop :=
  (∀ (sn : Snapshot) (x y w : Nat) (m : RGB Int), sn.incoming = none →
    graded { sn with weight := w } x y m = lane sn.curves sn.current x y m) ∧
  (∀ (sn : Snapshot) (g : Grade) (x y : Nat) (m : RGB Int), sn.incoming = some g →
    ∃ old new : RGB Int, old = lane sn.curves sn.current x y m ∧ new = lane sn.curves g x y m ∧
      graded sn x y m = ⟨(old.r * (256 - sn.weight) + new.r * sn.weight + 128) / 256,
        (old.g * (256 - sn.weight) + new.g * sn.weight + 128) / 256,
        (old.b * (256 - sn.weight) + new.b * sn.weight + 128) / 256⟩) ∧
  (∀ (w : Nat) (old new : Int), w ≤ 256 →
    min old new ≤ (old * (256 - w) + new * w + 128) / 256 ∧
    (old * (256 - w) + new * w + 128) / 256 ≤ max old new) ∧
  (∀ k n : Nat, 1 ≤ k → k ≤ n → n ≤ 63 → 4 ≤ 256 * k / (n + 1) ∧ 256 * k / (n + 1) ≤ 252)

/-- Stage 7: the code is 64 + floor((v × 876 + 2047) / 4095), the nearest one, never falling as v rises; 64 and 940 are reached by 3 values of 0..4095 each and every code between by 4 or 5 consecutive ones (R22). -/
def Obligations.OutputCoding : Prop :=
  (∀ v : Nat, v ≤ 4095 → outputCode v = 64 + (v * 876 + 2047) / 4095 ∧
    64 ≤ outputCode v ∧ outputCode v ≤ 940 ∧
    2 * ((v : Int) * 876 - (outputCode v - 64) * 4095) < 4095 ∧
    -4095 < 2 * ((v : Int) * 876 - (outputCode v - 64) * 4095)) ∧
  (∀ v w : Nat, v ≤ w → w ≤ 4095 → outputCode v ≤ outputCode w) ∧
  (∀ code : Nat, 64 ≤ code → code ≤ 940 → ∃ first count : Nat, first + count ≤ 4096 ∧
    (∀ v : Nat, v ≤ 4095 → (outputCode v = code ↔ first ≤ v ∧ v < first + count)) ∧
    (if code = 64 ∨ code = 940 then count = 3 else count = 4 ∨ count = 5))

/-- The ungraded picture: in the snapshot of a power-on reset every sample passes stages 1 to 6 unchanged and is coded directly (R6, R8, R9, R10, R13, R15, R26). -/
def Obligations.FlatPicture : Prop :=
  ∀ (straps : Straps) (x y : Nat) (r g b : Sample), x < 720 → y < 576 →
    pixelCodes (State.powerOn straps).snapshot straps.standard x y ⟨r.toNat, g.toNat, b.toNat⟩ =
      ⟨64 + (r.toNat * 876 + 2047) / 4095, 64 + (g.toNat * 876 + 2047) / 4095,
        64 + (b.toNat * 876 + 2047) / 4095⟩

/-! ## Raster lock -/

/-- FIELD_SYNC and MISSING_SYNC_EXPIRY in the raster lock monitor. A field sync judges the field it ends when the field-open mark is set, and the expiry counts a bad field; the runs, gain after four good fields and loss at the second bad one are as given. Both start the line count and the timer afresh, the sync sets the mark and takes the parity, the expiry clears the mark and makes the capture of the field it ends void (log 19); with no declaration of loss and no boundary nothing else changes (R153, R156, R157, R158, R159, R160). -/
def Obligations.FieldJudging : Prop :=
  ∀ s : State, s.resetHeld = false →
    (∀ p : Bool, ∃ t, exec (.fieldSync p) s = .next t ∧ t.video = { s.video with parity := p } ∧
      t.raster.lineCount = 0 ∧ t.raster.fieldOpen = true ∧ t.raster.sinceStart = 0 ∧
      (t.raster.locked, t.raster.goodRun, t.raster.badRun) =
        (if s.raster.fieldOpen = false then (s.raster.locked, s.raster.goodRun, s.raster.badRun)
        else if GoodCount s.straps.standard s.raster.lineCount then
          if s.raster.locked = true then (true, s.raster.goodRun, 0)
          else if s.raster.goodRun = 3 then (true, 0, 0)
          else (false, s.raster.goodRun + 1, s.raster.badRun)
        else
          if s.raster.locked = true then
            if s.raster.badRun = 0 then (true, s.raster.goodRun, 1) else (false, 0, 0)
          else (false, 0, s.raster.badRun)) ∧
      (s.raster.locked = false → t.raster.locked = false →
        { t with raster := s.raster, video := s.video } = s)) ∧
    (∃ t, exec .missingSyncExpiry s = .next t ∧
      t.raster.lineCount = 0 ∧ t.raster.fieldOpen = false ∧ t.raster.sinceStart = 0 ∧
      (t.raster.locked, t.raster.goodRun, t.raster.badRun) =
        (if s.raster.locked = true then
          if s.raster.badRun = 0 then (true, s.raster.goodRun, 1) else (false, 0, 0)
        else (false, 0, s.raster.badRun)) ∧
      t.detector.capture = none ∧
      (s.raster.locked = t.raster.locked → { t with
        raster := s.raster
        detector := { t.detector with capture := s.detector.capture } } = s))

/-- The declaration of loss of raster lock, by whichever command: SYNC_LOST is held, the follower loses schedule, frame, coast count and COAST cause and keeps the rest, a running dissolve completes with no SCENE ENTERED, black is forced, the histogram is abandoned, emptied at the declaration (log 19), and the capture void; everything else stands (delay, output port and pixel position too) but the sync's own marks and parity and what SYNC_LOST's event does to queue and latches (its FAULT's latches held are log 33) (R115, R120, R133, R140, R141, R153, R161). -/
def Obligations.LossOfLock : Prop :=
  ∀ (c : Instr) (s t : State), ¬ IsReset c → exec c s = .next t →
    s.raster.locked = true → t.raster.locked = false →
    t.held .syncLost = true ∧ t.forcedBlack = true ∧
    t.line = (s.raise .syncLost).line ∧ t.latches = (s.raise .syncLost).latches ∧
    t.follower = { s.follower with
      schedule := [], current := none, coast := 0, holdCoast := false } ∧
    t.controller = completed s.controller ∧
    t.detector = { s.detector with bins := List.replicate 16 0, capture := none } ∧
    (∀ n, gradeOf t n = gradeOf s n) ∧
    (∀ e ∈ t.line.tx, e ∈ s.line.tx ∨ ∃ newly held, e.cue = ⟨15, .fault newly held⟩) ∧
    t.line.fifo = s.line.fifo ∧
    { t.video with parity := s.video.parity } = s.video ∧
    (c = .missingSyncExpiry → t.video = s.video) ∧
    (∀ p, c = .fieldSync p → t.video.parity = p) ∧
    { t with
      latches := s.latches, forcedBlack := s.forcedBlack, follower := s.follower
      controller := s.controller, detector := s.detector, pool := s.pool
      line := s.line, raster := s.raster, video := s.video } = s

/-- ROLL_CALL_WINDOW_END stops the window and changes nothing else; the engine state is at every moment the first of Table 6-6 that applies (R24, R117, R185). -/
def Obligations.EngineStateTable : Prop :=
  (∀ s : State, s.resetHeld = false →
    exec .rollCallWindowEnd s = .next { s with rollCall := none } ∧
    ∀ t, exec .rollCallWindowEnd s = .next t → t.engineState ≠ .rollcall) ∧
  (∀ s : State,
    (s.engineState = .rollcall ↔ s.rollCall ≠ none) ∧
    (s.engineState = .unsync ↔ s.rollCall = none ∧ s.raster.locked = false) ∧
    (s.engineState = .standby ↔
      s.rollCall = none ∧ s.raster.locked = true ∧ s.follower.reel = none) ∧
    (s.engineState = .hold ↔
      s.rollCall = none ∧ s.raster.locked = true ∧ s.follower.reel ≠ none ∧
      (s.follower.holdConsole = true ∨ s.follower.holdCoast = true)) ∧
    (s.engineState = .coast ↔
      s.rollCall = none ∧ s.raster.locked = true ∧ s.follower.reel ≠ none ∧
      s.follower.holdConsole = false ∧ s.follower.holdCoast = false ∧ 0 < s.follower.coast) ∧
    (s.engineState = .follow ↔
      s.rollCall = none ∧ s.raster.locked = true ∧ s.follower.reel ≠ none ∧
      s.follower.holdConsole = false ∧ s.follower.holdCoast = false ∧ s.follower.coast = 0))

/-! ## The field boundary -/

/-- A field boundary. The controller works on the followed state, before or after the detector's firing when it fires (the order is free, log 7), and the grade contexts, pool, table and history are as those two leave them, and so are queue and latches with no install pending, which leaves the loader as it is (Table 2-2). COAST_HOLD's FAULT is offered before either (log 9), the CUT before TABLE_FULL's FAULT (log 30), and what a full queue does to the deferral and to a FAULT's own latches is logs 34 and 33. The count advances, the requested film mode comes into effect, the histogram starts empty, the capture is that of an arrival, the closed field renews the reference when its capture was valid and its samples whole, and black ends unless the window runs. What no block's boundary work names stays (R24, R101, R140, R141, R142, R147, R160, R194). -/
def Obligations.BoundaryWork : Prop :=
  ∀ (p : Bool) (s t : State), Boundary p s t →
    (∃ x : State, FollowedWork s t x ∧
      t.controller = x.controller ∧ t.pool = x.pool ∧ t.scenes = x.scenes ∧
      t.history = x.history ∧
      (s.loader.state ≠ .installPending → t.line = x.line ∧ t.latches = x.latches)) ∧
    (s.loader.state ≠ .installPending → t.loader = s.loader) ∧
    t.follower.fieldCount = (s.follower.fieldCount + 1) % 65536 ∧
    t.profile = { s.profile with filmInEffect := s.profile.filmRequested } ∧
    t.forcedBlack = s.rollCall.isSome ∧
    t.detector.bins = List.replicate 16 0 ∧
    t.detector.capture =
      (match s.follower.schedule.head?, t.follower.current with
      | some e, some f =>
        if e.first = t.follower.fieldCount then
          some ⟨f.frame, f.dir, f.speed, t.controller.sceneStart⟩ else none
      | _, _ => none) ∧
    t.detector.reference =
      (match s.detector.capture with
      | some k =>
        if s.detector.bins.sum = (if s.straps.standard = .s525 then 5490 else 6480) then
          some ⟨k.frame, s.detector.bins⟩ else s.detector.reference
      | none => s.detector.reference) ∧
    (∀ n, gradeOf t n = gradeOf s n) ∧
    t.straps = s.straps ∧ t.roster = s.roster ∧ t.rollCall = s.rollCall ∧
    t.enables = s.enables ∧ t.line.fifo = s.line.fifo ∧ t.line.mute = s.line.mute ∧
    t.line.inFlight = s.line.inFlight ∧ t.video = { s.video with parity := p } ∧
    t.follower.reel = s.follower.reel ∧ t.follower.holdConsole = s.follower.holdConsole ∧
    (∀ r ∈ s.scenes, r ∈ t.scenes)

/-- The current frame at a field boundary, by the first case that applies: the schedule's head is due and becomes current; the frame is unknown; STILL; its span not used up; a next frame within the reel and a coast count below 8 let it coast by the pulldown alternation; otherwise the COAST cause is added, and COAST_HOLD is held when the cause was absent (R108, R109, R110, R111, R112, R114). -/
def Obligations.CurrentFrameAtBoundary : Prop :=
  ∀ (p : Bool) (s t : State), Boundary p s t → FollowerSound s →
    let f := { s.follower with fieldCount := (s.follower.fieldCount + 1) % 65536 }
    (∀ e rest, s.follower.schedule = e :: rest → e.first = f.fieldCount →
      t.follower = { f with
        schedule := rest, current := some ⟨e.frame, e.dir, e.speed, e.span, 1⟩
        coast := 0, holdCoast := false }) ∧
    ((∀ e rest, s.follower.schedule = e :: rest → e.first ≠ f.fieldCount) →
      t.detector.capture = none ∧
      (s.follower.current = none → t.follower = f) ∧
      (∀ c, s.follower.current = some c →
        (c.speed = .still → t.follower = f) ∧
        (c.speed ≠ .still → c.shown < c.span →
          t.follower = { f with current := some { c with shown := c.shown + 1 } }) ∧
        (c.speed ≠ .still → c.span ≤ c.shown →
          let next : Int := if c.dir = .fwd then c.frame + 1 else c.frame - 1
          let coasts := s.follower.coast < 8 ∧ 0 ≤ next ∧
            ∃ reel ∈ s.follower.reel, next < reel.length
          (coasts → t.follower = { f with
            coast := s.follower.coast + 1
            current := some ⟨next.toNat, c.dir, c.speed,
              if c.span = 2 then 3 else if c.span = 3 then 2 else c.span, 1⟩ }) ∧
          (¬ coasts → t.follower = { f with holdCoast := true } ∧
            (s.follower.holdCoast = false → t.held .coastHold = true)))))

/-- The controller's boundary work where it makes no lookup: a running dissolve counts on and completes past N, whatever the state; in HOLD it completes at once and the hold-exit mark is set; with the frame unknown nothing else happens. Then every marked context takes a fresh copy. No cue is queued and no scene entered (R123, R124, R130). -/
def Obligations.ControllerWithoutLookup : Prop :=
  ∀ (arrival : Bool) (s : State),
    (s.engineState = .hold →
      (s.controllerBoundary arrival).controller =
        refreshed s { completed (counted s.controller) with holdExit := true }) ∧
    (s.engineState ≠ .hold → s.follower.current = none →
      (s.controllerBoundary arrival).controller = refreshed s (counted s.controller)) ∧
    (s.engineState = .hold ∨ s.follower.current = none →
      (∀ n, gradeOf (s.controllerBoundary arrival) n = gradeOf s n) ∧
      { s.controllerBoundary arrival with pool := s.pool, controller := s.controller } = s)

/-- The controller's boundary work with a lookup. A transition fires when the scene's start is not the current one, or, while IDLE, its slot is not CURRENT's. It is a DISSOLVE only for an arrival in forward PLAY at the start of a DISSOLVE scene with no hold before it, and a CUT otherwise; either first completes a running dissolve, and loads a fresh copy. That these conditions alone decide, also for a changed slot taken up as a dissolve completes, is log 37. SCENE ENTERED is offered when its report is on; the hold-exit mark is cleared (R125, R126, R127, R128, R129, R130). -/
def Obligations.ControllerLookup : Prop :=
  ∀ (arrival : Bool) (s : State) (f : CurrentFrame) (r : Scene),
    s.engineState ≠ .hold → s.follower.current = some f → r = sceneOf s.scenes f.frame →
    let c := { counted s.controller with holdExit := false }
    let t := s.controllerBoundary arrival
    let fires := r.start ≠ c.sceneStart ∨ (c.incoming = none ∧ r.slot ≠ c.current.slot)
    let dissolves := arrival = true ∧ f.dir = .fwd ∧ f.speed = .play ∧ f.frame = r.start ∧
      r.trans = .dissolve ∧ s.controller.holdExit = false
    (¬ fires → t.controller = refreshed s c ∧ t.line = s.line ∧ t.latches = s.latches) ∧
    (fires → ¬ dissolves →
      t.controller = { completed c with
        current := ⟨r.slot, s.pool.grade r.slot, false⟩, sceneStart := r.start }) ∧
    (fires → dissolves →
      t.controller = refreshed s { completed c with
        incoming := some ⟨r.slot, s.pool.grade r.slot, false⟩
        length := r.length, count := 1, sceneStart := r.start }) ∧
    (fires →
      (s.reportsSceneEntered = false → t.line = s.line ∧ t.latches = s.latches) ∧
      (s.reportsSceneEntered = true →
        ∃ kind : Transition, (kind = .dissolve ↔ dissolves) ∧
          let u := s.offer ⟨15, .sceneEntered (match s.follower.reel with | some q => q.id | none => 0)
            r.start f.frame r.slot kind (if kind = .dissolve then r.length else 0)
            s.follower.fieldCount⟩
          t.line = u.line ∧ t.latches = u.latches)) ∧
    (∀ n, gradeOf t n = gradeOf s n) ∧
    { t with pool := s.pool, controller := s.controller, line := s.line, latches := s.latches } = s

/-- The detector at a field boundary. A comparison is made for a whole field captured in forward PLAY or VARI after a reference of the frame before, in FOLLOW; its measure is floor(1024 D / 2S) with D the summed absolute differences, and replaces the last one. It fires at or above the threshold and at least the minimum scene length after the captured scene start; with the DETECT strap on it then inserts an unconfirmed DETECTOR record where none starts and the table has room, sets TABLE_FULL where it is full, and without firing or strap the table stays; and it queues a CUT cue with frame and measure where the report is on and the queue has room for all a boundary can offer (R81, R142, R143, R144, R146, R147; the state read is the one after the monitor's own work). -/
def Obligations.DetectorAtBoundary : Prop :=
  ∀ (p : Bool) (s t : State) (m : Option Measure), Boundary p s t →
    m = (match s.detector.capture, s.detector.reference with
      | some k, some q =>
        if s.detector.bins.sum = (if s.straps.standard = .s525 then 5490 else 6480) ∧
          q.frame + 1 = k.frame ∧ k.dir = .fwd ∧ (k.speed = .play ∨ k.speed = .vari) ∧
          s.rollCall = none ∧ s.follower.reel ≠ none ∧ s.follower.holdConsole = false ∧
          s.follower.holdCoast = false ∧ s.follower.coast = 0
        then some ⟨((s.detector.bins.zip q.bins).map
            (fun b => ((b.1 : Int) - b.2).natAbs)).sum * 1024 /
              (2 * (if s.straps.standard = .s525 then 5490 else 6480)), k.frame⟩
        else none
      | _, _ => none) →
    t.detector.measure = (if m = none then s.detector.measure else m) ∧
    (∀ k ∈ s.detector.capture, ∀ v ∈ m, s.profile.threshold ≤ v.value →
      (s.profile.minScene : Int) ≤ (k.frame : Int) - k.sceneStart → s.straps.detect = true →
      ((∃ r ∈ s.scenes, r.start = k.frame) → t.scenes = s.scenes) ∧
      ((¬ ∃ r ∈ s.scenes, r.start = k.frame) → 256 ≤ s.scenes.length →
        t.scenes = s.scenes ∧ t.held .tableFull = true) ∧
      ((¬ ∃ r ∈ s.scenes, r.start = k.frame) → s.scenes.length < 256 →
        (∀ x, x ∈ t.scenes ↔ x ∈ s.scenes ∨
          x = ⟨k.frame, (sceneOf s.scenes k.frame).slot, .cut, 1, .detector, false⟩) ∧
        Pushed (.sceneInserted k.frame) s t)) ∧
    (∀ k ∈ s.detector.capture, ∀ v ∈ m, s.profile.threshold ≤ v.value →
      (s.profile.minScene : Int) ≤ (k.frame : Int) - k.sceneStart → s.reportsCut = true →
      s.line.mute = false → s.line.tx.length ≤ 3 →
      ∃ e ∈ t.line.tx, ∃ q ∈ s.follower.reel, e.cue = ⟨15, .cut q.id k.frame v.value⟩) ∧
    ((∀ k ∈ s.detector.capture, ∀ v ∈ m, v.value < s.profile.threshold ∨
      (k.frame : Int) - k.sceneStart < s.profile.minScene) ∨ s.straps.detect = false →
      t.scenes = s.scenes ∧ t.history = s.history)

/-! ## Cues taken at arrival -/

/-- REEL: ignored from any station but the transport authority; with length 0 it has TIMING's event alone (its FAULT's latches held are log 33); of the reel held it empties the schedule and loses the frame; any other is a reel change, with every effect of Table 6-2 and no other (R51, R68, R93, R96, R97, R98, R99, R122, R134, R141). -/
def Obligations.ReelEffects : Prop :=
  ∀ (src : Station) (id len : U16) (s : State), s.resetHeld = false →
    if s.authority ≠ some src.toNat then exec (.reel src id len) s = .next s
    else if len = 0 then ∃ t, exec (.reel src id len) s = .next t ∧
      t = s.raise .timing ∧ t.held .timing = true ∧
      t.line.fifo = s.line.fifo ∧ { t with line := s.line, latches := s.latches } = s
    else if s.follower.reel = some ⟨id.toNat, len.toNat⟩ then
      exec (.reel src id len) s =
        .next { s with follower := { s.follower with schedule := [], current := none } }
    else ∃ t, exec (.reel src id len) s = .next t ∧
      t.follower = { s.follower with
        reel := some ⟨id.toNat, len.toNat⟩
        schedule := [], current := none, coast := 0, holdCoast := false } ∧
      t.scenes = [⟨0, 0, .cut, 1, .console, true⟩] ∧
      t.history = ⟨[], true⟩ ∧
      t.pool.slots.length = 128 ∧
      t.pool.slot 0 = some ⟨⟨⟨⟨0, 1024, 0⟩, ⟨0, 1024, 0⟩, ⟨0, 1024, 0⟩⟩, []⟩, 0⟩ ∧
      (∀ n, n ≠ 0 → t.pool.slot n = none) ∧
      t.controller = ⟨⟨0, s.controller.current.copy, true⟩, none, 0, 0, 0, s.controller.holdExit⟩ ∧
      t.detector = { s.detector with capture := none, reference := none } ∧
      { t with
        follower := s.follower, scenes := s.scenes, history := s.history, pool := s.pool
        controller := s.controller, detector := s.detector } = s

/-- FRAME: ignored from any station but the authority, and in ROLLCALL and UNSYNC; not taken, with TIMING's event alone (its FAULT's latches held are log 33), with no reel held or for a frame beyond it; otherwise entered as the schedule's last entry, due lead fields ahead, after every entry at or after its field is removed, with lead and span corrected (R96, R101, R102, R103, R104). -/
def Obligations.FrameEffects : Prop :=
  ∀ (src : Station) (index : U16) (dir : Direction) (speed : Speed) (lead span : BitVec 2)
    (s : State), s.resetHeld = false →
    if s.authority ≠ some src.toNat ∨ s.engineState = .rollcall ∨ s.engineState = .unsync then
      exec (.frame src index dir speed lead span) s = .next s
    else if ∀ q ∈ s.follower.reel, q.length ≤ index.toNat then
      ∃ t, exec (.frame src index dir speed lead span) s = .next t ∧
        t = s.raise .timing ∧ t.held .timing = true ∧
        t.line.fifo = s.line.fifo ∧ { t with line := s.line, latches := s.latches } = s
    else
      ∃ (first l k : Nat), l = (if lead = 0 then 1 else lead.toNat) ∧
        k = (if speed = .still ∨ span = 0 then 1 else span.toNat) ∧
        first = (s.follower.fieldCount + l) % 65536 ∧
        exec (.frame src index dir speed lead span) s = .next { s with follower := { s.follower with
          schedule := s.follower.schedule.filter (fun e => decide
            ((e.first + 65536 - s.follower.fieldCount) % 65536 <
              (first + 65536 - s.follower.fieldCount) % 65536)) ++
            [⟨index.toNat, dir, speed, k, first⟩] } }

/-- HOLD adds the CONSOLE cause and RELEASE removes it, from a CONSOLE, in every engine state; from any other station they change nothing, and neither touches the COAST cause or anything else (R113, R172). -/
def Obligations.HoldAndRelease : Prop :=
  ∀ (src : Station) (s : State), s.resetHeld = false →
    (s.role src = some .console →
      exec (.hold src) s =
        .next { s with follower := { s.follower with holdConsole := true } } ∧
      exec (.release src) s =
        .next { s with follower := { s.follower with holdConsole := false } }) ∧
    (s.role src ≠ some .console →
      exec (.hold src) s = .next s ∧ exec (.release src) s = .next s)

/-! ## The scene table and the edit history -/

/-- SCENE_MARK: the refusals of Table 4-4 in their order; otherwise the history takes a SCENE_INSERTED entry, and a confirmed CONSOLE record with the named grade (or the split scene's with SAME) and the limited length joins the table in start-frame order, the other records unchanged, with its reference; the reply carries position, record count, grade slot and values clamped (R49, R70, R71, R72, R73, R87). -/
def Obligations.SceneMark : Prop :=
  ∀ (src dst : Station) (frame : U16) (grade trans len : Byte) (s : State),
    let c : Cue := ⟨src, dst, .sceneMark frame grade trans len⟩
    let i : Instr := .sceneMark src dst frame grade trans len
    Accepted c s → ScenesSound s → PoolSound s →
    if s.follower.reel = none then RefusedWith i c .noReel s
    else if ∀ q ∈ s.follower.reel, q.length ≤ frame.toNat then RefusedWith i c .outOfReel s
    else if ∃ r ∈ s.scenes, r.start = frame.toNat then RefusedWith i c .exists s
    else if (grade ≠ 0xFF ∧ s.pool.slot grade.toNat = none) ∨ (trans ≠ 0 ∧ trans ≠ 1) then
      RefusedWith i c .notFound s
    else if s.scenes.length = 256 then RefusedWith i c .full s
    else ∃ (n : Nat) (new : Scene) (t : State),
      n = (if grade = 0xFF then (sceneOf s.scenes frame.toNat).slot else grade.toNat) ∧
      new = ⟨frame.toNat, n, if trans = 0 then .cut else .dissolve, max 1 (min 63 len.toNat),
        .console, true⟩ ∧
      exec i s = .next (answered c
        (if 1 ≤ len.toNat ∧ len.toNat ≤ 63 then .done else .doneClamped)
        ([byteOf (s.scenes.countP (fun r => r.start < frame.toNat))] ++
          natBytes (s.scenes.length + 1) ++
          [byteOf n, if 1 ≤ len.toNat ∧ len.toNat ≤ 63 then 0 else 1]) t) ∧
      t.scenes.Pairwise (fun a b => a.start < b.start) ∧
      (∀ r, r ∈ t.scenes ↔ r = new ∨ r ∈ s.scenes) ∧
      Pushed (.sceneInserted frame.toNat) s t ∧ PoolSound t ∧
      (∀ n, gradeOf t n = gradeOf s n) ∧
      { t with scenes := s.scenes, history := s.history, pool := s.pool } = served s

/-- SCENE_CLEAR: refused with no reel, beyond it, at frame 0, and where no record starts, in this order; otherwise a SCENE_REMOVED entry with the whole record is pushed and the record, of whatever origin and confirmation, leaves the table; the count of its slot is left as it was but for a discarded entry's reference. SCENE_PURGE: refused with no reel; otherwise every unconfirmed record leaves the table, the history is emptied without revert, its complete flag cleared when it held an entry, and every reference of both released; nothing is pushed. The replies carry position, records left and slot, or records removed and left, in the widths of log 20 (R49, R70, R74, R78, R87, R93). -/
def Obligations.SceneClearAndPurge : Prop :=
  (∀ (src dst : Station) (frame : U16) (s : State),
      let c : Cue := ⟨src, dst, .sceneClear frame⟩
      let i : Instr := .sceneClear src dst frame
      Accepted c s → ScenesSound s → PoolSound s →
      if s.follower.reel = none then RefusedWith i c .noReel s
      else if ∀ q ∈ s.follower.reel, q.length ≤ frame.toNat then RefusedWith i c .outOfReel s
      else if frame = 0 then RefusedWith i c .readOnly s
      else if ¬ ∃ r ∈ s.scenes, r.start = frame.toNat then RefusedWith i c .notFound s
      else ∃ (r : Scene) (t : State), r ∈ s.scenes ∧ r.start = frame.toNat ∧
        exec i s = .next (answered c .done
          ([byteOf (s.scenes.countP (fun x => x.start < frame.toNat))] ++
            [byteOf (s.scenes.length - 1), byteOf r.slot]) t) ∧
        t.scenes = s.scenes.filter (fun x => x ≠ r) ∧
        Pushed (.sceneRemoved r) s t ∧ PoolSound t ∧
        (∀ n, gradeOf t n = gradeOf s n) ∧
        (s.history.entries.length < 16 → t.pool = s.pool) ∧
        { t with scenes := s.scenes, history := s.history, pool := s.pool } = served s) ∧
  (∀ (src dst : Station) (s : State),
      let c : Cue := ⟨src, dst, .scenePurge⟩
      let i : Instr := .scenePurge src dst
      Accepted c s → ScenesSound s → PoolSound s →
      if s.follower.reel = none then RefusedWith i c .noReel s
      else ∃ t : State,
        exec i s = .next (answered c .done
          ([byteOf (s.scenes.countP (fun r => r.confirmed = false))] ++
            natBytes (s.scenes.countP (fun r => r.confirmed = true))) t) ∧
        t.scenes = s.scenes.filter (fun r => r.confirmed) ∧
        t.history.entries = [] ∧
        t.history.complete = (s.history.complete && s.history.entries.isEmpty) ∧
        PoolSound t ∧ (∀ n, gradeOf t n = gradeOf s n) ∧
        { t with scenes := s.scenes, history := s.history, pool := s.pool } = served s)

/-- SCENE_SET: refused with no reel, beyond it, where no record starts, and for a grade, transition or confirm field that names nothing, in this order; otherwise a SCENE_CHANGED entry with the whole prior record is pushed and the record takes slot, transition, limited length and, with confirm, the confirmation, keeping start and origin; a confirmed record stays confirmed (R49, R70, R71, R75, R76, R87). -/
def Obligations.SceneSet : Prop :=
  ∀ (src dst : Station) (frame : U16) (grade trans len confirm : Byte) (s : State),
    let c : Cue := ⟨src, dst, .sceneSet frame grade trans len confirm⟩
    let i : Instr := .sceneSet src dst frame grade trans len confirm
    Accepted c s → ScenesSound s → PoolSound s →
    if s.follower.reel = none then RefusedWith i c .noReel s
    else if ∀ q ∈ s.follower.reel, q.length ≤ frame.toNat then RefusedWith i c .outOfReel s
    else if ¬ ∃ r ∈ s.scenes, r.start = frame.toNat then RefusedWith i c .notFound s
    else if (grade ≠ 0xFF ∧ s.pool.slot grade.toNat = none) ∨ (trans ≠ 0 ∧ trans ≠ 1) ∨
        (confirm ≠ 0 ∧ confirm ≠ 1) then RefusedWith i c .notFound s
    else ∃ (r new : Scene) (t : State), r ∈ s.scenes ∧ r.start = frame.toNat ∧
      new = ⟨r.start, if grade = 0xFF then r.slot else grade.toNat,
        if trans = 0 then .cut else .dissolve, max 1 (min 63 len.toNat), r.origin,
        r.confirmed || confirm == 1⟩ ∧
      exec i s = .next (answered c
        (if 1 ≤ len.toNat ∧ len.toNat ≤ 63 then .done else .doneClamped)
        [byteOf (s.scenes.countP (fun x => x.start < frame.toNat)), byteOf new.slot,
          if new.confirmed then 1 else 0, if 1 ≤ len.toNat ∧ len.toNat ≤ 63 then 0 else 1] t) ∧
      t.scenes = s.scenes.map (fun x => if x = r then new else x) ∧
      Pushed (.sceneChanged r) s t ∧ PoolSound t ∧
      (∀ n, gradeOf t n = gradeOf s n) ∧
      { t with scenes := s.scenes, history := s.history, pool := s.pool } = served s

/-- SCENE_QUERY, GRADE_QUERY and PORT_READ are answered as Tables 4-5, 3-6 and 12-2 give, byte by byte in the layout of R170, or refused, and change nothing: a scene by frame (beyond a held reel OUT_OF_REEL) or by position, a grade part or vector, a port below 16; every other mode, position, slot, part and port is NOT_FOUND. The widths of items are those of log 20 (R60, R67, R79, R80, R170, R193). -/
def Obligations.QueriesChangeNothing : Prop :=
  (∀ (src dst : Station) (mode : Byte) (arg : U16) (s : State),
    let c : Cue := ⟨src, dst, .sceneQuery mode arg⟩
    let i : Instr := .sceneQuery src dst mode arg
    let data : Nat → Scene → List Byte := fun position r =>
      [byteOf position] ++ natBytes s.scenes.length ++ natBytes r.start ++
      (match s.scenes[position + 1]? with
        | some next => 1 :: natBytes next.start
        | none => [0, 0, 0]) ++
      [byteOf r.slot, if r.trans = .cut then 0 else 1, byteOf r.length] ++
      (match r.origin with
        | .console => [0, 0]
        | .detector => [1, 0]
        | .peer station => [2, byteOf station.toNat]) ++
      [if r.confirmed then 1 else 0]
    Accepted c s → ScenesSound s →
    (mode = 0 → (∃ q ∈ s.follower.reel, q.length ≤ arg.toNat) → RefusedWith i c .outOfReel s) ∧
    (mode = 0 → (∀ q ∈ s.follower.reel, arg.toNat < q.length) →
      ∃ r before after, s.scenes = before ++ r :: after ∧ r.start ≤ arg.toNat ∧
        (∀ x ∈ after, arg.toNat < x.start) ∧
        exec i s = .next (answered c .done (data before.length r) (served s))) ∧
    (mode = 1 → ∀ r, s.scenes[arg.toNat]? = some r →
      exec i s = .next (answered c .done (data arg.toNat r) (served s))) ∧
    (mode = 1 → s.scenes.length ≤ arg.toNat → RefusedWith i c .notFound s) ∧
    (mode ≠ 0 → mode ≠ 1 → RefusedWith i c .notFound s)) ∧
  (∀ (src dst : Station) (slot part position : Byte) (s : State),
    let c : Cue := ⟨src, dst, .gradeQuery slot part position⟩
    let i : Instr := .gradeQuery src dst slot part position
    let pair : Nat → Nat → List Byte := fun a b =>
      [byteOf (a / 16), byteOf (a % 16 * 16 + b / 256), byteOf (b % 256)]
    Accepted c s → GradesSound s →
    (s.pool.slot slot.toNat = none → RefusedWith i c .notFound s) ∧
    (∀ r, s.pool.slot slot.toNat = some r →
      (part = 0 → ∃ channel : Primary → List Byte,
        (∀ k, channel k = intBytes k.lift ++ natBytes k.gain ++ [byteOf k.curve]) ∧
        exec i s = .next (answered c .done
          ([0] ++ channel r.grade.primary.r ++ channel r.grade.primary.g ++
            channel r.grade.primary.b ++ natBytes r.refs ++ [byteOf r.grade.vectors.length])
          (served s))) ∧
      (part = 1 → ∀ v, r.grade.vectors[position.toNat]? = some v →
        ∃ (first : Byte) (coordinates : List Byte),
        (match v.rect with
          | none => first = byteOf (128 + position.toNat) ∧ coordinates = []
          | some q => first = byteOf (128 + 64 + position.toNat) ∧
              coordinates = pair q.x0 q.x1 ++ pair q.y0 q.y1) ∧
        exec i s = .next (answered c .done
          ([first] ++ pair v.lo.r v.hi.r ++ pair v.lo.g v.hi.g ++ pair v.lo.b v.hi.b ++
            intBytes v.offset.r ++ intBytes v.offset.g ++ intBytes v.offset.b ++ coordinates)
          (served s))) ∧
      (part = 1 → r.grade.vectors.length ≤ position.toNat → RefusedWith i c .notFound s) ∧
      (part ≠ 0 → part ≠ 1 → RefusedWith i c .notFound s))) ∧
  (∀ (src dst : Station) (port : Byte) (s : State),
    let c : Cue := ⟨src, dst, .portRead port⟩
    let i : Instr := .portRead src dst port
    let row : RGB Int → List Byte := fun k => intBytes k.r ++ intBytes k.g ++ intBytes k.b
    let mode : FilmMode → Byte := fun m => if m = .positive then 0 else 1
    let flag : Bool → Byte := fun b => if b then 1 else 0
    let histogram : Nat → List Byte := fun first =>
      match s.detector.reference with
      | some q => 1 :: (natBytes q.frame ++
          (List.range 8).flatMap (fun j => natBytes (q.bins.getD (first + j) 0)))
      | none => List.replicate 19 0
    Accepted c s → PoolSound s → RosterSound s → DetectorSound s →
    (16 ≤ port.toNat → RefusedWith i c .notFound s) ∧
    (port.toNat < 16 → ∃ d, d.length ≤ 21 ∧
      exec i s = .next (answered c .done (port :: d) (served s)) ∧
      (port = 0 → d = [match s.engineState with
          | .rollcall => 0 | .unsync => 1 | .standby => 2 | .follow => 3 | .coast => 4 | .hold => 5,
          (if s.follower.holdConsole then 1 else 0) + (if s.follower.holdCoast then 2 else 0),
          flag s.line.mute, flag s.history.complete] ++
        (match s.follower.reel with
          | some q => 1 :: (natBytes q.id ++ natBytes q.length)
          | none => [0, 0, 0, 0, 0])) ∧
      (port = 1 → d = (match s.follower.current with
          | some f => 1 :: natBytes f.frame
          | none => [0, 0, 0]) ++
        natBytes s.controller.sceneStart ++ [byteOf s.follower.coast] ++
        natBytes s.follower.fieldCount ++ [byteOf s.controller.count, byteOf s.controller.length]) ∧
      (port = 2 → d = [s.latches]) ∧
      (port = 3 → d = natBytes s.scenes.length ++
        [byteOf (((List.range 127).filter (fun n => (s.pool.slot (n + 1)).isSome)).length),
          byteOf s.history.entries.length]) ∧
      (port = 4 → ∃ w : U16, d = bytesOf16 w ∧ w.toNat < 1024 ∧
        (∀ l : Latch, w.getLsbD l.index = s.reports l) ∧
        w.getLsbD 8 = s.reportsCut ∧ w.getLsbD 9 = s.reportsSceneEntered) ∧
      (port = 5 → d = [mode s.profile.filmRequested, mode s.profile.filmInEffect]) ∧
      (port = 6 → d = row s.profile.matrix.r) ∧ (port = 7 → d = row s.profile.matrix.g) ∧
      (port = 8 → d = row s.profile.matrix.b) ∧
      (port = 9 → d = natBytes s.profile.threshold) ∧
      (port = 10 → d = natBytes s.profile.minScene) ∧
      (port = 11 → d = histogram 0) ∧ (port = 12 → d = histogram 8) ∧
      (port = 13 → d = (match s.detector.measure with
        | some m => 1 :: (natBytes m.value ++ natBytes m.frame)
        | none => [0, 0, 0, 0, 0])) ∧
      (port = 14 → d = [byteOf s.straps.station.toNat,
        if s.straps.standard = .s525 then 0 else 1, flag s.straps.detect,
        flag s.straps.peerCuts]) ∧
      (port = 15 → d = (List.range 15).map (fun n =>
        match s.role (BitVec.ofNat 4 n) with
        | none => 0 | some .transport => 1 | some .scanner => 2 | some .recorder => 3
        | some .console => 4 | some .engine => 5 | some .other => 6))))

/-- UNDO: refused with no reel, and EMPTY with the complete flag when no entry is held; otherwise the newest entry leaves and is reverted: an inserted record is removed, a removed one put back in start-frame order with every field, a changed one restored, a prior primary part or vector list written back with the contexts that name the slot marked; nothing is pushed and the flag stays. Every count is again the number of holders, also where a change left the slot as it was (log 31); the reply carries kind, frame or slot in two bytes (log 20), depth and flag (R58, R59, R82, R89, R90, R91, R92). -/
def Obligations.UndoReverts : Prop :=
  ∀ (src dst : Station) (s : State),
    let c : Cue := ⟨src, dst, .undo⟩
    let i : Instr := .undo src dst
    Accepted c s → ScenesSound s → PoolSound s →
    if s.follower.reel = none then RefusedWith i c .noReel s
    else if s.history.entries = [] then
      exec i s = .next (answered c .empty [if s.history.complete then 1 else 0] (served s))
    else ∃ (older : List Entry) (e : Entry) (t : State), s.history.entries = older ++ [e] ∧
      exec i s = .next (answered c .done
        ((match e with
          | .sceneInserted f => 0 :: natBytes f
          | .sceneRemoved r => 1 :: natBytes r.start
          | .sceneChanged r => 2 :: natBytes r.start
          | .primaryChanged n _ => 3 :: natBytes n
          | .vectorsChanged n _ => 4 :: natBytes n) ++ [byteOf older.length, if s.history.complete then 1 else 0]) t) ∧
      t.history = ⟨older, s.history.complete⟩ ∧ PoolSound t ∧
      t.scenes.Pairwise (fun a b => a.start < b.start) ∧
      (∀ r, r ∈ t.scenes ↔
        (match e with
        | .sceneInserted f => r ∈ s.scenes ∧ r.start ≠ f
        | .sceneRemoved q => r = q ∨ r ∈ s.scenes
        | .sceneChanged q => r = q ∨ (r ∈ s.scenes ∧ r.start ≠ q.start)
        | .primaryChanged _ _ => r ∈ s.scenes
        | .vectorsChanged _ _ => r ∈ s.scenes)) ∧
      (∀ n, gradeOf t n =
        (match e with
        | .primaryChanged m q =>
          if n = m then (gradeOf s n).map (fun g => { g with primary := q }) else gradeOf s n
        | .vectorsChanged m vs =>
          if n = m then (gradeOf s n).map (fun g => { g with vectors := vs }) else gradeOf s n
        | .sceneInserted _ => gradeOf s n
        | .sceneRemoved _ => gradeOf s n
        | .sceneChanged _ => gradeOf s n)) ∧
      t.controller =
        (match e with
        | .primaryChanged m _ => { s.controller with
          current := markedBy m s.controller.current
          incoming := s.controller.incoming.map (markedBy m) }
        | .vectorsChanged m _ => { s.controller with
          current := markedBy m s.controller.current
          incoming := s.controller.incoming.map (markedBy m) }
        | .sceneInserted _ => s.controller
        | .sceneRemoved _ => s.controller
        | .sceneChanged _ => s.controller) ∧
      { t with
        scenes := s.scenes, history := s.history, pool := s.pool
        controller := s.controller } = served s

/-- UNDO takes back any edit: after the service of any command that pushed an entry onto a history of fewer than 16 (a SCENE MARK, CLEAR or SET, a grade edit, a peer's cut), the service of an UNDO restores the scene table, every slot with its grade and its reference count, and the history, exactly as they were, also where the edit left the slot as it was (log 31) (R82, R87, R90, R91, R92). -/
def Obligations.UndoRestores : Prop :=
  ∀ (i : Instr) (c : Cue) (src dst : Station) (rest : List Cue) (e : Entry) (s t u : State),
    serviceCue i = some c → ScenesSound s → s.resetHeld = false →
    s.line.fifo = c :: ⟨src, dst, .undo⟩ :: rest → s.line.lineResets = [] →
    s.engineState ≠ .rollcall → s.role src = some .console → s.follower.reel ≠ none →
    exec i s = .next t → t.history.entries = s.history.entries ++ [e] →
    exec (.undo src dst) t = .next u →
    u.scenes = s.scenes ∧ u.pool = s.pool ∧ u.history = s.history

/-- PEER_CUT: accepted outside ROLLCALL from an ENGINE with the PEERCUTS strap on, for the reel held and a frame below its length, it proposes a cut: no effect where a record starts, TABLE_FULL's event on a full table (its FAULT's latches held are log 33), otherwise an unconfirmed PEER record with the split scene's grade is inserted with its SCENE_INSERTED entry; a cue that fails a test changes nothing. It draws no REPLY, and its measure does not matter (R77, R81, R149, R150). -/
def Obligations.PeerCutEffects : Prop :=
  ∀ (src dst : Station) (reel frame measure : U16) (s : State),
    let i : Instr := .peerCut src dst reel frame measure
    AtHead ⟨src, dst, .cut reel frame measure⟩ s → ScenesSound s → PoolSound s →
    if s.engineState = .rollcall ∨ s.role src ≠ some .engine ∨ s.straps.peerCuts = false ∨
        (∀ q ∈ s.follower.reel, q.id ≠ reel.toNat ∨ q.length ≤ frame.toNat) ∨
        (∃ r ∈ s.scenes, r.start = frame.toNat) then
      exec i s = .next (served s).takeWaiting
    else if s.scenes.length = 256 then
      exec i s = .next ((served s).raise .tableFull).takeWaiting
    else ∃ (new : Scene) (t : State),
      new = ⟨frame.toNat, (sceneOf s.scenes frame.toNat).slot, .cut, 1, .peer src, false⟩ ∧
      exec i s = .next t.takeWaiting ∧
      t.scenes.Pairwise (fun a b => a.start < b.start) ∧
      (∀ r, r ∈ t.scenes ↔ r = new ∨ r ∈ s.scenes) ∧
      Pushed (.sceneInserted frame.toNat) s t ∧ PoolSound t ∧
      (∀ n, gradeOf t n = gradeOf s n) ∧
      { t with scenes := s.scenes, history := s.history, pool := s.pool } = served s

/-! ## The grade pool -/

/-- GRADE_NEW allocates the lowest free slot of 1..127 with the flat grade and a count of 0, or is refused FULL; GRADE_DROP is refused above 127, for slot 0, for a free slot, and with the count for a slot still named, and frees any other. Neither is recorded, and neither touches another slot (R46, R48, R50). -/
def Obligations.GradeNewAndDrop : Prop :=
  (∀ (src dst : Station) (s : State),
    let c : Cue := ⟨src, dst, .gradeNew⟩
    let i : Instr := .gradeNew src dst
    Accepted c s → PoolSound s →
    ((∀ n < 128, s.pool.slot n ≠ none) → RefusedWith i c .full s) ∧
    (∀ n < 128, s.pool.slot n = none → (∀ m < n, s.pool.slot m ≠ none) →
      ∃ t, exec i s = .next (answered c .done [byteOf n] t) ∧ 1 ≤ n ∧
        t.pool.slot n = some ⟨⟨⟨⟨0, 1024, 0⟩, ⟨0, 1024, 0⟩, ⟨0, 1024, 0⟩⟩, []⟩, 0⟩ ∧
        (∀ m, m ≠ n → t.pool.slot m = s.pool.slot m) ∧
        { t with pool := s.pool } = served s)) ∧
  (∀ (src dst : Station) (slot : Byte) (s : State),
    let c : Cue := ⟨src, dst, .gradeDrop slot⟩
    let i : Instr := .gradeDrop src dst slot
    Accepted c s → PoolSound s →
    if 127 < slot.toNat then RefusedWith i c .notFound s
    else if slot = 0 then RefusedWith i c .readOnly s
    else if s.pool.slot slot.toNat = none then RefusedWith i c .notFound s
    else if 0 < holders s slot.toNat then
      exec i s = .next (answered c .inUse (natBytes (holders s slot.toNat)) (served s))
    else ∃ t, exec i s = .next (answered c .done [slot] t) ∧
      t.pool.slot slot.toNat = none ∧
      (∀ m, m ≠ slot.toNat → t.pool.slot m = s.pool.slot m) ∧
      { t with pool := s.pool } = served s)

/-- GRADE_PRIMARY: the refusals of Table 3-4 in their order; otherwise the prior primary part is pushed, all nine values are written, lift and gain limited, the vector list stays, the contexts naming the slot are marked, and the reply counts the values limited (R52, R53, R54, R57, R58). -/
def Obligations.GradePrimary : Prop :=
  ∀ (src dst : Station) (slot : Byte) (p : RGB WirePrimary) (s : State),
    let c : Cue := ⟨src, dst, .gradePrimary slot p⟩
    let i : Instr := .gradePrimary src dst slot p
    Accepted c s → PoolSound s →
    if 127 < slot.toNat then RefusedWith i c .notFound s
    else if slot = 0 then RefusedWith i c .readOnly s
    else if s.pool.slot slot.toNat = none then RefusedWith i c .notFound s
    else if ∃ w ∈ p.toList, 15 < w.curve.toNat then RefusedWith i c .notFound s
    else ∃ (old : Grade) (new : RGB Primary) (k : Nat) (t : State),
      gradeOf s slot.toNat = some old ∧
      new = p.map (fun w =>
        ⟨max (-512) (min 511 w.lift.toInt), min 4095 w.gain.toNat, w.curve.toNat⟩) ∧
      k = p.toList.countP (fun w => decide (w.lift.toInt < -512 ∨ 511 < w.lift.toInt)) +
        p.toList.countP (fun w => decide (4095 < w.gain.toNat)) ∧
      exec i s = .next (answered c (if k = 0 then .done else .doneClamped) [slot, byteOf k] t) ∧
      (∀ n, gradeOf t n =
        if n = slot.toNat then some { old with primary := new } else gradeOf s n) ∧
      Pushed (.primaryChanged slot.toNat old.primary) s t ∧ PoolSound t ∧
      t.controller = { s.controller with
        current := markedBy slot.toNat s.controller.current
        incoming := s.controller.incoming.map (markedBy slot.toNat) } ∧
      { t with history := s.history, pool := s.pool, controller := s.controller } = served s

/-- GRADE_VECTOR by position (Table 3-5): replaced below the count, appended at it, FULL at 6, NOT_FOUND beyond; GRADE_VECTOR_DELETE removes the vector at the position and closes up the list, NOT_FOUND at or beyond the count. A taken edit pushes the whole prior list, limits the written values, leaves the primary part, marks the contexts naming the slot, and answers with slot, position, count and values limited (R45, R52, R53, R55, R56, R57, R58). -/
def Obligations.GradeVectors : Prop :=
  ∀ (src dst : Station) (slot position : Byte) (v : WireVector) (s : State), PoolSound s →
    (let c : Cue := ⟨src, dst, .gradeVector slot position v⟩
    let i : Instr := .gradeVector src dst slot position v
    Accepted c s →
    if 127 < slot.toNat then RefusedWith i c .notFound s
    else if slot = 0 then RefusedWith i c .readOnly s
    else ∀ old : Option Grade, old = gradeOf s slot.toNat →
      match old with
      | none => RefusedWith i c .notFound s
      | some g =>
        if g.vectors.length < position.toNat then RefusedWith i c .notFound s
        else if position.toNat = g.vectors.length ∧ 6 ≤ g.vectors.length then
          RefusedWith i c .full s
        else ∃ (new : Vec) (list : List Vec) (k : Nat) (t : State),
          new.lo = v.lo.map (·.toNat) ∧ new.hi = v.hi.map (·.toNat) ∧
          new.offset = v.offset.map (fun o => max (-1023) (min 1023 o.toInt)) ∧
          new.rect = v.rect.map (fun q =>
            ⟨min 719 q.x0.toNat, min 719 q.x1.toNat, min 575 q.y0.toNat, min 575 q.y1.toNat⟩) ∧
          list = (if position.toNat < g.vectors.length then g.vectors.set position.toNat new
            else g.vectors ++ [new]) ∧
          k = v.offset.toList.countP (fun o => decide (o.toInt < -1023 ∨ 1023 < o.toInt)) +
            (match v.rect with
            | some q => [q.x0, q.x1].countP (fun x => decide (719 < x.toNat)) +
              [q.y0, q.y1].countP (fun y => decide (575 < y.toNat))
            | none => 0) ∧
          exec i s = .next (answered c (if k = 0 then .done else .doneClamped)
            [slot, position, byteOf list.length, byteOf k] t) ∧
          (∀ n, gradeOf t n =
            if n = slot.toNat then some { g with vectors := list } else gradeOf s n) ∧
          Pushed (.vectorsChanged slot.toNat g.vectors) s t ∧ PoolSound t ∧
          t.controller = { s.controller with
            current := markedBy slot.toNat s.controller.current
            incoming := s.controller.incoming.map (markedBy slot.toNat) } ∧
          { t with history := s.history, pool := s.pool, controller := s.controller } = served s) ∧
    (let c : Cue := ⟨src, dst, .gradeVectorDelete slot position⟩
    let i : Instr := .gradeVectorDelete src dst slot position
    Accepted c s →
    if 127 < slot.toNat then RefusedWith i c .notFound s
    else if slot = 0 then RefusedWith i c .readOnly s
    else ∀ old : Option Grade, old = gradeOf s slot.toNat →
      match old with
      | none => RefusedWith i c .notFound s
      | some g =>
        if g.vectors.length ≤ position.toNat then RefusedWith i c .notFound s
        else ∃ t : State,
          exec i s = .next (answered c .done [slot, byteOf (g.vectors.length - 1)] t) ∧
          (∀ n, gradeOf t n = if n = slot.toNat then
            some { g with vectors :=
              g.vectors.take position.toNat ++ g.vectors.drop (position.toNat + 1) }
            else gradeOf s n) ∧
          Pushed (.vectorsChanged slot.toNat g.vectors) s t ∧ PoolSound t ∧
          t.controller = { s.controller with
            current := markedBy slot.toNat s.controller.current
            incoming := s.controller.incoming.map (markedBy slot.toNat) } ∧
          { t with history := s.history, pool := s.pool, controller := s.controller } = served s)

/-! ## The loader -/

/-- LOAD_START: the refusals of Table 2-3 in their order; otherwise the loader goes FILLING on the target with a copy of its present table, the pointer at the start index modulo the table size and the pointer mode set, and the reply carries the pointer (R32, R33). -/
def Obligations.LoadStart : Prop :=
  ∀ (src dst : Station) (kind curve : Byte) (start : U16) (mode : Byte) (s : State),
    let c : Cue := ⟨src, dst, .loadStart kind curve start mode⟩
    let i : Instr := .loadStart src dst kind curve start mode
    Accepted c s →
    if s.loader.state ≠ .idle then RefusedWith i c .busy s
    else if 2 < kind.toNat ∨ (kind = 0 ∧ 15 < curve.toNat) ∨ 2 < mode.toNat then
      RefusedWith i c .notFound s
    else if kind = 0 ∧ curve = 0 then RefusedWith i c .readOnly s
    else ∃ (target : LoadTarget) (table : List Nat) (size : Nat),
      (kind = 0 → target = .curve curve.toNat ∧ table = s.curves.getD curve.toNat [] ∧ size = 257) ∧
      (kind = 1 → target = .shadingH ∧ table = s.shadeH ∧ size = 64) ∧
      (kind = 2 → target = .shadingV ∧ table = s.shadeV ∧ size = 64) ∧
      exec i s = .next (answered c .done (natBytes (start.toNat % size))
        { served s with loader := ⟨.filling, some target, table, start.toNat % size,
          if mode = 0 then .increment else if mode = 1 then .decrement else .hold, none⟩ })

/-- LOAD_DATA: WRONG_STATE while IDLE and BUSY while an install is pending; while FILLING each value in turn is limited to the target's range and written at the pointer, which then moves by the mode and wraps at the table's ends; the reply carries the pointer and how many values were limited, and no table changes (R34, R35, R36). -/
def Obligations.LoadData : Prop :=
  ∀ (src dst : Station) (values : List U16) (s : State),
    let c : Cue := ⟨src, dst, .loadData values⟩
    let i : Instr := .loadData src dst values
    Accepted c s → StoresSound s →
    (s.loader.state = .idle → RefusedWith i c .wrongState s) ∧
    (s.loader.state = .installPending → RefusedWith i c .busy s) ∧
    (∀ target, s.loader.state = .filling → s.loader.target = some target →
      ∀ (low high size : Nat) (place : Nat → Nat),
        ((low, high, size) = match target with
          | .curve _ => (0, 4096, 257)
          | .shadingH => (768, 1280, 64)
          | .shadingV => (768, 1280, 64)) →
        (∀ k, place k = match s.loader.mode with
          | .increment => (s.loader.pointer + k) % size
          | .decrement => (s.loader.pointer + k * (size - 1)) % size
          | .hold => s.loader.pointer) →
        ∃ (t : State) (k : Nat),
          k = values.countP (fun w => decide (w.toNat < low ∨ high < w.toNat)) ∧
          exec i s = .next (answered c (if k = 0 then .done else .doneClamped)
            (natBytes (place values.length) ++ [byteOf k]) t) ∧
          t.loader.pointer = place values.length ∧
          t.loader.buffer.length = s.loader.buffer.length ∧
          (∀ j < size,
            ((∀ n < values.length, place n ≠ j) →
              t.loader.buffer.getD j 0 = s.loader.buffer.getD j 0) ∧
            (∀ n w, values[n]? = some w → place n = j →
              (∀ m < values.length, n < m → place m ≠ j) →
              t.loader.buffer.getD j 0 = max low (min high w.toNat))) ∧
          { t with loader := { t.loader with
            buffer := s.loader.buffer, pointer := s.loader.pointer } } = served s)

/-- LOAD_INSTALL is refused WRONG_STATE while IDLE and BUSY while an install is pending, which changes nothing, so the requester stays the first one's; while FILLING it makes the install pending for its source, or for none when broadcast, and queues no reply. LOAD_CANCEL is answered DONE with the loader state it found and leaves the loader IDLE with no target and no requester; a pending install's requester is first answered CANCELLED with the target; no table changes (R37, R38, R41, Table 2-4). -/
def Obligations.LoadInstallAndCancel : Prop :=
  (∀ (src dst : Station) (s : State),
      let c : Cue := ⟨src, dst, .loadInstall⟩
      let i : Instr := .loadInstall src dst
      Accepted c s →
      (s.loader.state = .idle → RefusedWith i c .wrongState s) ∧
      (s.loader.state = .installPending → RefusedWith i c .busy s) ∧
      (s.loader.state = .filling →
        exec i s = .next (State.takeWaiting { served s with loader := { s.loader with
          state := .installPending, requester := if dst = 15 then none else some src } }))) ∧
  (∀ (src dst : Station) (s : State),
      let c : Cue := ⟨src, dst, .loadCancel⟩
      let i : Instr := .loadCancel src dst
      Accepted c s → StoresSound s →
      ∃ (t : State) (found : Byte),
        (s.loader.state = .idle → found = 0) ∧ (s.loader.state = .filling → found = 1) ∧
        (s.loader.state = .installPending → found = 2) ∧
        exec i s = .next (answered c .done [found] t) ∧
        t.loader.state = .idle ∧ t.loader.target = none ∧ t.loader.requester = none ∧
        (s.loader.state ≠ .installPending ∨ s.loader.requester = none →
          { t with loader := s.loader } = served s) ∧
        (∀ target a, s.loader.state = .installPending → s.loader.target = some target →
          s.loader.requester = some a → ∃ data : List Byte,
          (∀ n, target = .curve n → data = [0, byteOf n]) ∧
          (target = .shadingH → data = [1, 0]) ∧ (target = .shadingV → data = [2, 0]) ∧
          { t with loader := s.loader } =
            (served s).offer ⟨a, .reply 0x22 .cancelled data⟩))

/-! ## Ports and latches -/

/-- The writes of ports 4 to 10 store what they carry, limited to its range, answer DONE or DONE_CLAMPED with the port and its contents as stored, and change nothing else; a film mode that names none is NOT_FOUND, and the mode in effect stays. PORT_WRITE by port and contents is NOT_FOUND at 16 and above, READ_ONLY for ports 0 to 3 and 11 to 15, NOT_FOUND for contents of another length than the port's, and otherwise the very write of that port. The reply of port 5 carries the requested mode alone (log 21), that of port 10 two bytes (log 20), and the new flags of port 4 stand before its reply is offered (log 36) (R145, R167, R170, R192, R193, R194). -/
def Obligations.PortWrites : Prop :=
  (∀ (src dst : Station) (s : State),
      (∀ w : U16, Accepted ⟨src, dst, .portWrite 4 (bytesOf16 w)⟩ s →
        exec (.portWriteReportEnables src dst w) s =
          .next (answered ⟨src, dst, .portWrite 4 (bytesOf16 w)⟩ .done
            (4 :: bytesOf16 (w &&& 0x3FF)) { served s with enables := w.setWidth 10 })) ∧
      (∀ m : Byte, Accepted ⟨src, dst, .portWrite 5 [m]⟩ s →
        (1 < m.toNat → RefusedWith (.portWriteFilmMode src dst m) ⟨src, dst, .portWrite 5 [m]⟩
          .notFound s) ∧
        (m.toNat ≤ 1 → exec (.portWriteFilmMode src dst m) s =
          .next (answered ⟨src, dst, .portWrite 5 [m]⟩ .done [5, m]
            { served s with profile := { s.profile with
              filmRequested := if m = 0 then .positive else .negative } }))) ∧
      (∀ (row : Channel) (k : RGB (BitVec 16)), ∀ c : Cue,
        c = ⟨src, dst, .portWrite (match row with | .r => 6 | .g => 7 | .b => 8)
          (bytesOf16 k.r ++ bytesOf16 k.g ++ bytesOf16 k.b)⟩ →
        Accepted c s → ∃ (v : RGB Int) (m : Matrix),
          v = k.map (fun a => max (-512) (min 511 a.toInt)) ∧
          (row = .r → m = ⟨v, s.profile.matrix.g, s.profile.matrix.b⟩) ∧
          (row = .g → m = ⟨s.profile.matrix.r, v, s.profile.matrix.b⟩) ∧
          (row = .b → m = ⟨s.profile.matrix.r, s.profile.matrix.g, v⟩) ∧
          exec (.portWriteMatrix src dst row k) s = .next (answered c
            (if ∀ a ∈ k.toList, -512 ≤ a.toInt ∧ a.toInt ≤ 511 then .done else .doneClamped)
            ((match row with | .r => 6 | .g => 7 | .b => 8) ::
              (intBytes v.r ++ intBytes v.g ++ intBytes v.b))
            { served s with profile := { s.profile with matrix := m } })) ∧
      (∀ w : U16, Accepted ⟨src, dst, .portWrite 9 (bytesOf16 w)⟩ s →
        exec (.portWriteCutThreshold src dst w) s =
          .next (answered ⟨src, dst, .portWrite 9 (bytesOf16 w)⟩
            (if w.toNat ≤ 1024 then .done else .doneClamped) (9 :: natBytes (min 1024 w.toNat))
            { served s with profile := { s.profile with threshold := min 1024 w.toNat } })) ∧
      (∀ w : U16, Accepted ⟨src, dst, .portWrite 10 (bytesOf16 w)⟩ s →
        exec (.portWriteMinScene src dst w) s =
          .next (answered ⟨src, dst, .portWrite 10 (bytesOf16 w)⟩
            (if 1 ≤ w.toNat ∧ w.toNat ≤ 255 then .done else .doneClamped)
            (10 :: natBytes (max 1 (min 255 w.toNat)))
            { served s with profile := { s.profile with
              minScene := max 1 (min 255 w.toNat) } }))) ∧
  (∀ (src dst : Station) (port : Byte) (data : List Byte) (s : State),
      let c : Cue := ⟨src, dst, .portWrite port data⟩
      let i : Instr := .portWrite src dst port data
      Accepted c s →
      (16 ≤ port.toNat → RefusedWith i c .notFound s) ∧
      (port.toNat ≤ 3 ∨ (11 ≤ port.toNat ∧ port.toNat ≤ 15) → RefusedWith i c .readOnly s) ∧
      (4 ≤ port.toNat → port.toNat ≤ 10 →
        data.length ≠ (if port = 5 then 1 else if 6 ≤ port.toNat ∧ port.toNat ≤ 8 then 6 else 2) →
        RefusedWith i c .notFound s) ∧
      (∀ w : U16, port = 4 → data = bytesOf16 w →
        ∃ t, exec i s = .next t ∧ exec (.portWriteReportEnables src dst w) s = .next t) ∧
      (∀ m : Byte, port = 5 → data = [m] → ∃ t, exec i s = .next t ∧ exec (.portWriteFilmMode src dst m) s = .next t) ∧
      (∀ (row : Channel) (k : RGB (BitVec 16)), port = (match row with | .r => 6 | .g => 7 | .b => 8) →
        data = bytesOf16 k.r ++ bytesOf16 k.g ++ bytesOf16 k.b →
        ∃ t, exec i s = .next t ∧ exec (.portWriteMatrix src dst row k) s = .next t) ∧
      (∀ w : U16, port = 9 → data = bytesOf16 w →
        ∃ t, exec i s = .next t ∧ exec (.portWriteCutThreshold src dst w) s = .next t) ∧
      (∀ w : U16, port = 10 → data = bytesOf16 w →
        ∃ t, exec i s = .next t ∧ exec (.portWriteMinScene src dst w) s = .next t))

/-- CLEAR_FAULTS clears each named latch, but for SYNC_LOST while lock is not held and COAST_HOLD while the COAST cause is present, leaves every other latch, offers no FAULT, and answers DONE with the latches held after it, those of the moment before the reply's own offer (log 35) (R190). -/
def Obligations.ClearFaults : Prop :=
  ∀ (src dst : Station) (mask : Byte) (s : State),
    let c : Cue := ⟨src, dst, .clearFaults mask⟩
    Accepted c s →
    ∃ t : State, exec (.clearFaults src dst mask) s = .next (answered c .done [t.latches] t) ∧
      (∀ l : Latch, t.held l = true ↔ s.held l = true ∧
        (mask.getLsbD l.index = false ∨ (l = .syncLost ∧ s.raster.locked = false) ∨
          (l = .coastHold ∧ s.follower.holdCoast = true))) ∧
      { t with latches := s.latches } = served s
end

