-- ==== Sys2Proof/Laws/State.lean ====
section
/-! SUPPORT. One lemma per named update of the state: what each field is after it, true by `rfl` and tagged `@[simp]`, so that no later proof unfolds a record update. -/

namespace Sys2Proof.Machine

variable (s : State)

/-- Setting a latch changes the latches alone (R189). -/
@[simp] theorem State.latch_fields (l : Latch) :
    (s.latch l).straps = s.straps ∧
    (s.latch l).resetHeld = s.resetHeld ∧
    (s.latch l).video = s.video ∧
    (s.latch l).raster = s.raster ∧
    (s.latch l).snapshot = s.snapshot ∧
    (s.latch l).forcedBlack = s.forcedBlack ∧
    (s.latch l).curves = s.curves ∧
    (s.latch l).shadeH = s.shadeH ∧
    (s.latch l).shadeV = s.shadeV ∧
    (s.latch l).loader = s.loader ∧
    (s.latch l).pool = s.pool ∧
    (s.latch l).scenes = s.scenes ∧
    (s.latch l).history = s.history ∧
    (s.latch l).follower = s.follower ∧
    (s.latch l).controller = s.controller ∧
    (s.latch l).detector = s.detector ∧
    (s.latch l).line = s.line ∧
    (s.latch l).roster = s.roster ∧
    (s.latch l).rollCall = s.rollCall ∧
    (s.latch l).latches = s.latches ||| l.bit ∧
    (s.latch l).enables = s.enables ∧
    (s.latch l).profile = s.profile ∧
    (s.latch l).freeCount = s.freeCount ∧
    (s.latch l).pending = s.pending :=
  ⟨rfl, rfl, rfl, rfl, rfl, rfl, rfl, rfl, rfl, rfl, rfl, rfl, rfl, rfl, rfl, rfl, rfl, rfl, rfl, rfl, rfl, rfl, rfl, rfl⟩

/-- Setting the mute changes the line alone (R179). -/
@[simp] theorem State.muted_fields :
    (s.muted).straps = s.straps ∧
    (s.muted).resetHeld = s.resetHeld ∧
    (s.muted).video = s.video ∧
    (s.muted).raster = s.raster ∧
    (s.muted).snapshot = s.snapshot ∧
    (s.muted).forcedBlack = s.forcedBlack ∧
    (s.muted).curves = s.curves ∧
    (s.muted).shadeH = s.shadeH ∧
    (s.muted).shadeV = s.shadeV ∧
    (s.muted).loader = s.loader ∧
    (s.muted).pool = s.pool ∧
    (s.muted).scenes = s.scenes ∧
    (s.muted).history = s.history ∧
    (s.muted).follower = s.follower ∧
    (s.muted).controller = s.controller ∧
    (s.muted).detector = s.detector ∧
    (s.muted).line = { s.line.silence with mute := true } ∧
    (s.muted).roster = s.roster ∧
    (s.muted).rollCall = s.rollCall ∧
    (s.muted).latches = s.latches ∧
    (s.muted).enables = s.enables ∧
    (s.muted).profile = s.profile ∧
    (s.muted).freeCount = s.freeCount ∧
    (s.muted).pending = s.pending :=
  ⟨rfl, rfl, rfl, rfl, rfl, rfl, rfl, rfl, rfl, rfl, rfl, rfl, rfl, rfl, rfl, rfl, rfl, rfl, rfl, rfl, rfl, rfl, rfl, rfl⟩

/-- A re-thread changes the follower alone (R99). -/
@[simp] theorem State.rethread_fields :
    (s.rethread).straps = s.straps ∧
    (s.rethread).resetHeld = s.resetHeld ∧
    (s.rethread).video = s.video ∧
    (s.rethread).raster = s.raster ∧
    (s.rethread).snapshot = s.snapshot ∧
    (s.rethread).forcedBlack = s.forcedBlack ∧
    (s.rethread).curves = s.curves ∧
    (s.rethread).shadeH = s.shadeH ∧
    (s.rethread).shadeV = s.shadeV ∧
    (s.rethread).loader = s.loader ∧
    (s.rethread).pool = s.pool ∧
    (s.rethread).scenes = s.scenes ∧
    (s.rethread).history = s.history ∧
    (s.rethread).follower = { s.follower with schedule := [], current := none } ∧
    (s.rethread).controller = s.controller ∧
    (s.rethread).detector = s.detector ∧
    (s.rethread).line = s.line ∧
    (s.rethread).roster = s.roster ∧
    (s.rethread).rollCall = s.rollCall ∧
    (s.rethread).latches = s.latches ∧
    (s.rethread).enables = s.enables ∧
    (s.rethread).profile = s.profile ∧
    (s.rethread).freeCount = s.freeCount ∧
    (s.rethread).pending = s.pending :=
  ⟨rfl, rfl, rfl, rfl, rfl, rfl, rfl, rfl, rfl, rfl, rfl, rfl, rfl, rfl, rfl, rfl, rfl, rfl, rfl, rfl, rfl, rfl, rfl, rfl⟩

/-- What a reel change sets (R98, Table 6-2). -/
@[simp] theorem State.changeReel_fields (r : Reel) :
    (s.changeReel r).straps = s.straps ∧
    (s.changeReel r).resetHeld = s.resetHeld ∧
    (s.changeReel r).video = s.video ∧
    (s.changeReel r).raster = s.raster ∧
    (s.changeReel r).snapshot = s.snapshot ∧
    (s.changeReel r).forcedBlack = s.forcedBlack ∧
    (s.changeReel r).curves = s.curves ∧
    (s.changeReel r).shadeH = s.shadeH ∧
    (s.changeReel r).shadeV = s.shadeV ∧
    (s.changeReel r).loader = s.loader ∧
    (s.changeReel r).pool = Pool.initial ∧
    (s.changeReel r).scenes = [Scene.head] ∧
    (s.changeReel r).history = ⟨[], true⟩ ∧
    (s.changeReel r).follower = { s.follower with
      reel := some r, schedule := [], current := none, coast := 0, holdCoast := false } ∧
    (s.changeReel r).controller = { s.controller with
      current := { s.controller.current with slot := 0, mark := true }
      incoming := none, sceneStart := 0, length := 0, count := 0 } ∧
    (s.changeReel r).detector = { s.detector with capture := none, reference := none } ∧
    (s.changeReel r).line = s.line ∧
    (s.changeReel r).roster = s.roster ∧
    (s.changeReel r).rollCall = s.rollCall ∧
    (s.changeReel r).latches = s.latches ∧
    (s.changeReel r).enables = s.enables ∧
    (s.changeReel r).profile = s.profile ∧
    (s.changeReel r).freeCount = s.freeCount ∧
    (s.changeReel r).pending = s.pending :=
  ⟨rfl, rfl, rfl, rfl, rfl, rfl, rfl, rfl, rfl, rfl, rfl, rfl, rfl, rfl, rfl, rfl, rfl, rfl, rfl, rfl, rfl, rfl, rfl, rfl⟩

/-- Writing a slot changes the pool and the refresh marks (R58). -/
@[simp] theorem State.writeSlot_fields (n : Nat) (g : Grade) :
    (s.writeSlot n g).straps = s.straps ∧
    (s.writeSlot n g).resetHeld = s.resetHeld ∧
    (s.writeSlot n g).video = s.video ∧
    (s.writeSlot n g).raster = s.raster ∧
    (s.writeSlot n g).snapshot = s.snapshot ∧
    (s.writeSlot n g).forcedBlack = s.forcedBlack ∧
    (s.writeSlot n g).curves = s.curves ∧
    (s.writeSlot n g).shadeH = s.shadeH ∧
    (s.writeSlot n g).shadeV = s.shadeV ∧
    (s.writeSlot n g).loader = s.loader ∧
    (s.writeSlot n g).pool = s.pool.write n g ∧
    (s.writeSlot n g).scenes = s.scenes ∧
    (s.writeSlot n g).history = s.history ∧
    (s.writeSlot n g).follower = s.follower ∧
    (s.writeSlot n g).controller = s.controller.markSlot n ∧
    (s.writeSlot n g).detector = s.detector ∧
    (s.writeSlot n g).line = s.line ∧
    (s.writeSlot n g).roster = s.roster ∧
    (s.writeSlot n g).rollCall = s.rollCall ∧
    (s.writeSlot n g).latches = s.latches ∧
    (s.writeSlot n g).enables = s.enables ∧
    (s.writeSlot n g).profile = s.profile ∧
    (s.writeSlot n g).freeCount = s.freeCount ∧
    (s.writeSlot n g).pending = s.pending :=
  ⟨rfl, rfl, rfl, rfl, rfl, rfl, rfl, rfl, rfl, rfl, rfl, rfl, rfl, rfl, rfl, rfl, rfl, rfl, rfl, rfl, rfl, rfl, rfl, rfl⟩

/-- Changing a record moves its reference (R75). -/
@[simp] theorem State.changeRecord_fields (old new : Scene) :
    (s.changeRecord old new).straps = s.straps ∧
    (s.changeRecord old new).resetHeld = s.resetHeld ∧
    (s.changeRecord old new).video = s.video ∧
    (s.changeRecord old new).raster = s.raster ∧
    (s.changeRecord old new).snapshot = s.snapshot ∧
    (s.changeRecord old new).forcedBlack = s.forcedBlack ∧
    (s.changeRecord old new).curves = s.curves ∧
    (s.changeRecord old new).shadeH = s.shadeH ∧
    (s.changeRecord old new).shadeV = s.shadeV ∧
    (s.changeRecord old new).loader = s.loader ∧
    (s.changeRecord old new).pool = (s.pool.claim new.slot).release old.slot ∧
    (s.changeRecord old new).scenes = replaceScene new s.scenes ∧
    (s.changeRecord old new).history = s.history ∧
    (s.changeRecord old new).follower = s.follower ∧
    (s.changeRecord old new).controller = s.controller ∧
    (s.changeRecord old new).detector = s.detector ∧
    (s.changeRecord old new).line = s.line ∧
    (s.changeRecord old new).roster = s.roster ∧
    (s.changeRecord old new).rollCall = s.rollCall ∧
    (s.changeRecord old new).latches = s.latches ∧
    (s.changeRecord old new).enables = s.enables ∧
    (s.changeRecord old new).profile = s.profile ∧
    (s.changeRecord old new).freeCount = s.freeCount ∧
    (s.changeRecord old new).pending = s.pending :=
  ⟨rfl, rfl, rfl, rfl, rfl, rfl, rfl, rfl, rfl, rfl, rfl, rfl, rfl, rfl, rfl, rfl, rfl, rfl, rfl, rfl, rfl, rfl, rfl, rfl⟩

/-- A purge of the table (R78). -/
@[simp] theorem State.purgeScenes_fields :
    (s.purgeScenes).straps = s.straps ∧
    (s.purgeScenes).resetHeld = s.resetHeld ∧
    (s.purgeScenes).video = s.video ∧
    (s.purgeScenes).raster = s.raster ∧
    (s.purgeScenes).snapshot = s.snapshot ∧
    (s.purgeScenes).forcedBlack = s.forcedBlack ∧
    (s.purgeScenes).curves = s.curves ∧
    (s.purgeScenes).shadeH = s.shadeH ∧
    (s.purgeScenes).shadeV = s.shadeV ∧
    (s.purgeScenes).loader = s.loader ∧
    (s.purgeScenes).pool = (s.scenes.filter (fun r => !r.confirmed)).foldl (fun p r => p.release r.slot) s.pool ∧
    (s.purgeScenes).scenes = s.scenes.filter (fun r => r.confirmed) ∧
    (s.purgeScenes).history = s.history ∧
    (s.purgeScenes).follower = s.follower ∧
    (s.purgeScenes).controller = s.controller ∧
    (s.purgeScenes).detector = s.detector ∧
    (s.purgeScenes).line = s.line ∧
    (s.purgeScenes).roster = s.roster ∧
    (s.purgeScenes).rollCall = s.rollCall ∧
    (s.purgeScenes).latches = s.latches ∧
    (s.purgeScenes).enables = s.enables ∧
    (s.purgeScenes).profile = s.profile ∧
    (s.purgeScenes).freeCount = s.freeCount ∧
    (s.purgeScenes).pending = s.pending :=
  ⟨rfl, rfl, rfl, rfl, rfl, rfl, rfl, rfl, rfl, rfl, rfl, rfl, rfl, rfl, rfl, rfl, rfl, rfl, rfl, rfl, rfl, rfl, rfl, rfl⟩

/-- A purge of the history (R93). -/
@[simp] theorem State.purgeHistory_fields :
    (s.purgeHistory).straps = s.straps ∧
    (s.purgeHistory).resetHeld = s.resetHeld ∧
    (s.purgeHistory).video = s.video ∧
    (s.purgeHistory).raster = s.raster ∧
    (s.purgeHistory).snapshot = s.snapshot ∧
    (s.purgeHistory).forcedBlack = s.forcedBlack ∧
    (s.purgeHistory).curves = s.curves ∧
    (s.purgeHistory).shadeH = s.shadeH ∧
    (s.purgeHistory).shadeV = s.shadeV ∧
    (s.purgeHistory).loader = s.loader ∧
    (s.purgeHistory).pool = s.history.entries.foldl (fun p e => p.releaseEntry e) s.pool ∧
    (s.purgeHistory).scenes = s.scenes ∧
    (s.purgeHistory).history = ⟨[], s.history.complete && s.history.entries.isEmpty⟩ ∧
    (s.purgeHistory).follower = s.follower ∧
    (s.purgeHistory).controller = s.controller ∧
    (s.purgeHistory).detector = s.detector ∧
    (s.purgeHistory).line = s.line ∧
    (s.purgeHistory).roster = s.roster ∧
    (s.purgeHistory).rollCall = s.rollCall ∧
    (s.purgeHistory).latches = s.latches ∧
    (s.purgeHistory).enables = s.enables ∧
    (s.purgeHistory).profile = s.profile ∧
    (s.purgeHistory).freeCount = s.freeCount ∧
    (s.purgeHistory).pending = s.pending :=
  ⟨rfl, rfl, rfl, rfl, rfl, rfl, rfl, rfl, rfl, rfl, rfl, rfl, rfl, rfl, rfl, rfl, rfl, rfl, rfl, rfl, rfl, rfl, rfl, rfl⟩

/-- A refresh changes the contexts alone (R130). -/
@[simp] theorem State.refreshContexts_fields :
    (s.refreshContexts).straps = s.straps ∧
    (s.refreshContexts).resetHeld = s.resetHeld ∧
    (s.refreshContexts).video = s.video ∧
    (s.refreshContexts).raster = s.raster ∧
    (s.refreshContexts).snapshot = s.snapshot ∧
    (s.refreshContexts).forcedBlack = s.forcedBlack ∧
    (s.refreshContexts).curves = s.curves ∧
    (s.refreshContexts).shadeH = s.shadeH ∧
    (s.refreshContexts).shadeV = s.shadeV ∧
    (s.refreshContexts).loader = s.loader ∧
    (s.refreshContexts).pool = s.pool ∧
    (s.refreshContexts).scenes = s.scenes ∧
    (s.refreshContexts).history = s.history ∧
    (s.refreshContexts).follower = s.follower ∧
    (s.refreshContexts).controller = { s.controller with
      current := s.controller.current.refresh s.pool
      incoming := s.controller.incoming.map (Context.refresh s.pool) } ∧
    (s.refreshContexts).detector = s.detector ∧
    (s.refreshContexts).line = s.line ∧
    (s.refreshContexts).roster = s.roster ∧
    (s.refreshContexts).rollCall = s.rollCall ∧
    (s.refreshContexts).latches = s.latches ∧
    (s.refreshContexts).enables = s.enables ∧
    (s.refreshContexts).profile = s.profile ∧
    (s.refreshContexts).freeCount = s.freeCount ∧
    (s.refreshContexts).pending = s.pending :=
  ⟨rfl, rfl, rfl, rfl, rfl, rfl, rfl, rfl, rfl, rfl, rfl, rfl, rfl, rfl, rfl, rfl, rfl, rfl, rfl, rfl, rfl, rfl, rfl, rfl⟩

/-- What one pixel clock changes (R152, R154). -/
@[simp] theorem State.pixelClock_fields (p : RGB Int) (a b c : Bool) :
    (s.pixelClock p a b c).straps = s.straps ∧
    (s.pixelClock p a b c).resetHeld = s.resetHeld ∧
    (s.pixelClock p a b c).video = Video.present ⟨State.codeNow { s with video :=
      { s.video with clocksIntoLine := s.video.clocksIntoLine + 1 } } p, a, b, c⟩
      { s.video with clocksIntoLine := s.video.clocksIntoLine + 1 } ∧
    (s.pixelClock p a b c).raster = s.raster.tick s.straps.standard ∧
    (s.pixelClock p a b c).snapshot = s.snapshot ∧
    (s.pixelClock p a b c).forcedBlack = s.forcedBlack ∧
    (s.pixelClock p a b c).curves = s.curves ∧
    (s.pixelClock p a b c).shadeH = s.shadeH ∧
    (s.pixelClock p a b c).shadeV = s.shadeV ∧
    (s.pixelClock p a b c).loader = s.loader ∧
    (s.pixelClock p a b c).pool = s.pool ∧
    (s.pixelClock p a b c).scenes = s.scenes ∧
    (s.pixelClock p a b c).history = s.history ∧
    (s.pixelClock p a b c).follower = s.follower ∧
    (s.pixelClock p a b c).controller = s.controller ∧
    (s.pixelClock p a b c).detector = { s.detector with bins := State.binsNow { s with video :=
      { s.video with clocksIntoLine := s.video.clocksIntoLine + 1 } } p } ∧
    (s.pixelClock p a b c).line = s.line ∧
    (s.pixelClock p a b c).roster = s.roster ∧
    (s.pixelClock p a b c).rollCall = rollCallTick s.rollCall ∧
    (s.pixelClock p a b c).latches = s.latches ∧
    (s.pixelClock p a b c).enables = s.enables ∧
    (s.pixelClock p a b c).profile = s.profile ∧
    (s.pixelClock p a b c).freeCount = s.freeCount ∧
    (s.pixelClock p a b c).pending = s.pending :=
  ⟨rfl, rfl, rfl, rfl, rfl, rfl, rfl, rfl, rfl, rfl, rfl, rfl, rfl, rfl, rfl, rfl, rfl, rfl, rfl, rfl, rfl, rfl, rfl, rfl⟩

/-! ## Parts of the state -/

/-- Emptying the queue leaves what is received, the mute and the line's own marks (R179, R180). -/
@[simp] theorem Line.silence_fields (l : Line) :
    l.silence.tx = [] ∧ l.silence.inFlight = none ∧ l.silence.deferral = none ∧
    l.silence.fifo = l.fifo ∧ l.silence.lineResets = l.lineResets ∧ l.silence.mute = l.mute ∧
    l.silence.nextJoin = l.nextJoin ∧ l.silence.idle = l.idle ∧ l.silence.sentWhole = l.sentWhole :=
  ⟨rfl, rfl, rfl, rfl, rfl, rfl, rfl, rfl, rfl⟩

/-- The field count alone advances (R101). -/
@[simp] theorem Follower.advance_fields (f : Follower) :
    f.advance.fieldCount = (f.fieldCount + 1) % 65536 ∧ f.advance.reel = f.reel ∧
    f.advance.schedule = f.schedule ∧ f.advance.current = f.current ∧ f.advance.coast = f.coast ∧
    f.advance.holdConsole = f.holdConsole ∧ f.advance.holdCoast = f.holdCoast :=
  ⟨rfl, rfl, rfl, rfl, rfl, rfl, rfl⟩

/-- What an arrival sets (R108). -/
@[simp] theorem Follower.arrive_fields (f : Follower) (e : Announced) :
    (f.arrive e).schedule = f.schedule.tail ∧
    (f.arrive e).current = some ⟨e.frame, e.dir, e.speed, e.span, 1⟩ ∧
    (f.arrive e).coast = 0 ∧ (f.arrive e).holdCoast = false ∧ (f.arrive e).reel = f.reel ∧
    (f.arrive e).fieldCount = f.fieldCount ∧ (f.arrive e).holdConsole = f.holdConsole :=
  ⟨rfl, rfl, rfl, rfl, rfl, rfl, rfl⟩

/-- What the follower loses with the lock (R115). -/
@[simp] theorem Follower.loseLock_fields (f : Follower) :
    f.loseLock.schedule = [] ∧ f.loseLock.current = none ∧ f.loseLock.coast = 0 ∧
    f.loseLock.holdCoast = false ∧ f.loseLock.reel = f.reel ∧
    f.loseLock.fieldCount = f.fieldCount ∧ f.loseLock.holdConsole = f.holdConsole :=
  ⟨rfl, rfl, rfl, rfl, rfl, rfl, rfl⟩

/-- Marking a slot touches the refresh marks alone (R58). -/
@[simp] theorem Controller.markSlot_fields (c : Controller) (n : Nat) :
    (c.markSlot n).current = c.current.markIf n ∧
    (c.markSlot n).incoming = c.incoming.map (Context.markIf n) ∧
    (c.markSlot n).sceneStart = c.sceneStart ∧ (c.markSlot n).length = c.length ∧
    (c.markSlot n).count = c.count ∧ (c.markSlot n).holdExit = c.holdExit :=
  ⟨rfl, rfl, rfl, rfl, rfl, rfl⟩

/-- A context keeps its slot and copy when it is marked (R58). -/
@[simp] theorem Context.markIf_slot (n : Nat) (c : Context) :
    (c.markIf n).slot = c.slot ∧ (c.markIf n).copy = c.copy := by
  unfold Context.markIf
  split <;> exact ⟨rfl, rfl⟩

/-- A context keeps its slot when it is refreshed, and its mark is clear afterwards (R130). -/
@[simp] theorem Context.refresh_slot (p : Pool) (c : Context) :
    (c.refresh p).slot = c.slot ∧ (c.refresh p).mark = false := by
  unfold Context.refresh
  split
  · exact ⟨rfl, rfl⟩
  · rename_i h
    exact ⟨rfl, by simpa using h⟩

end Sys2Proof.Machine
end

