-- ==== Sys2Proof/Laws/Ops.lean ====
section
/-! SUPPORT. One lemma per shared operation that says once everything it can touch (`_eq`: the state it gives is the old one with those fields alone replaced), and the same field by field for simp (`_fields`). -/

namespace Sys2Proof.Machine

variable (s : State)

/-- A running engine acts. -/
@[simp] theorem whenRunning_running (act : State → State) (h : s.resetHeld = false) :
    whenRunning act s = .next (act s) := by simp [whenRunning, h]

/-- An engine in reset does not (R154, R186). -/
@[simp] theorem whenRunning_held (act : State → State) (h : s.resetHeld = true) :
    whenRunning act s = .next s := by simp [whenRunning, h]

/-- Setting TX_OVERFLOW touches the line and the latches (R178). -/
theorem State.overflow_eq :
    s.overflow = { s with line := (s.overflow).line, latches := (s.overflow).latches } := by
  unfold State.overflow
  split
  · rfl
  · dsimp only
    split <;> rfl

/-- Setting TX_OVERFLOW touches the line and the latches (R178). -/
@[simp] theorem State.overflow_fields :
    (s.overflow).straps = s.straps ∧
    (s.overflow).resetHeld = s.resetHeld ∧
    (s.overflow).video = s.video ∧
    (s.overflow).raster = s.raster ∧
    (s.overflow).snapshot = s.snapshot ∧
    (s.overflow).forcedBlack = s.forcedBlack ∧
    (s.overflow).curves = s.curves ∧
    (s.overflow).shadeH = s.shadeH ∧
    (s.overflow).shadeV = s.shadeV ∧
    (s.overflow).loader = s.loader ∧
    (s.overflow).pool = s.pool ∧
    (s.overflow).scenes = s.scenes ∧
    (s.overflow).history = s.history ∧
    (s.overflow).follower = s.follower ∧
    (s.overflow).controller = s.controller ∧
    (s.overflow).detector = s.detector ∧
    (s.overflow).roster = s.roster ∧
    (s.overflow).rollCall = s.rollCall ∧
    (s.overflow).enables = s.enables ∧
    (s.overflow).profile = s.profile ∧
    (s.overflow).freeCount = s.freeCount ∧
    (s.overflow).pending = s.pending := by
  rw [State.overflow_eq s]
  exact ⟨rfl, rfl, rfl, rfl, rfl, rfl, rfl, rfl, rfl, rfl, rfl, rfl, rfl, rfl, rfl, rfl, rfl, rfl, rfl, rfl, rfl, rfl⟩

/-- An offer touches the line and the latches (R178). -/
theorem State.offer_eq (c : TxCue) :
    s.offer c = { s with line := (s.offer c).line, latches := (s.offer c).latches } := by
  unfold State.offer
  split
  · rfl
  · dsimp only
    split
    · rw [State.overflow_eq]
    · rfl

/-- An offer touches the line and the latches (R178). -/
@[simp] theorem State.offer_fields (c : TxCue) :
    (s.offer c).straps = s.straps ∧
    (s.offer c).resetHeld = s.resetHeld ∧
    (s.offer c).video = s.video ∧
    (s.offer c).raster = s.raster ∧
    (s.offer c).snapshot = s.snapshot ∧
    (s.offer c).forcedBlack = s.forcedBlack ∧
    (s.offer c).curves = s.curves ∧
    (s.offer c).shadeH = s.shadeH ∧
    (s.offer c).shadeV = s.shadeV ∧
    (s.offer c).loader = s.loader ∧
    (s.offer c).pool = s.pool ∧
    (s.offer c).scenes = s.scenes ∧
    (s.offer c).history = s.history ∧
    (s.offer c).follower = s.follower ∧
    (s.offer c).controller = s.controller ∧
    (s.offer c).detector = s.detector ∧
    (s.offer c).roster = s.roster ∧
    (s.offer c).rollCall = s.rollCall ∧
    (s.offer c).enables = s.enables ∧
    (s.offer c).profile = s.profile ∧
    (s.offer c).freeCount = s.freeCount ∧
    (s.offer c).pending = s.pending := by
  rw [State.offer_eq s c]
  exact ⟨rfl, rfl, rfl, rfl, rfl, rfl, rfl, rfl, rfl, rfl, rfl, rfl, rfl, rfl, rfl, rfl, rfl, rfl, rfl, rfl, rfl, rfl⟩

/-- An event that sets a latch touches the line and the latches (R189, R191). -/
theorem State.raise_eq (l : Latch) :
    s.raise l = { s with line := (s.raise l).line, latches := (s.raise l).latches } := by
  unfold State.raise
  split
  · rfl
  · dsimp only
    split
    · rw [State.offer_eq]
      rfl
    · rfl

/-- An event that sets a latch touches the line and the latches (R189, R191). -/
@[simp] theorem State.raise_fields (l : Latch) :
    (s.raise l).straps = s.straps ∧
    (s.raise l).resetHeld = s.resetHeld ∧
    (s.raise l).video = s.video ∧
    (s.raise l).raster = s.raster ∧
    (s.raise l).snapshot = s.snapshot ∧
    (s.raise l).forcedBlack = s.forcedBlack ∧
    (s.raise l).curves = s.curves ∧
    (s.raise l).shadeH = s.shadeH ∧
    (s.raise l).shadeV = s.shadeV ∧
    (s.raise l).loader = s.loader ∧
    (s.raise l).pool = s.pool ∧
    (s.raise l).scenes = s.scenes ∧
    (s.raise l).history = s.history ∧
    (s.raise l).follower = s.follower ∧
    (s.raise l).controller = s.controller ∧
    (s.raise l).detector = s.detector ∧
    (s.raise l).roster = s.roster ∧
    (s.raise l).rollCall = s.rollCall ∧
    (s.raise l).enables = s.enables ∧
    (s.raise l).profile = s.profile ∧
    (s.raise l).freeCount = s.freeCount ∧
    (s.raise l).pending = s.pending := by
  rw [State.raise_eq s l]
  exact ⟨rfl, rfl, rfl, rfl, rfl, rfl, rfl, rfl, rfl, rfl, rfl, rfl, rfl, rfl, rfl, rfl, rfl, rfl, rfl, rfl, rfl, rfl⟩

/-- A reply touches the line and the latches (R175). -/
theorem State.reply_eq (c : Cue) (a : Answer) :
    s.reply c a = { s with line := (s.reply c a).line, latches := (s.reply c a).latches } := by
  unfold State.reply
  split
  · rfl
  · split
    · rfl
    · rw [State.offer_eq]

/-- A reply touches the line and the latches (R175). -/
@[simp] theorem State.reply_fields (c : Cue) (a : Answer) :
    (s.reply c a).straps = s.straps ∧
    (s.reply c a).resetHeld = s.resetHeld ∧
    (s.reply c a).video = s.video ∧
    (s.reply c a).raster = s.raster ∧
    (s.reply c a).snapshot = s.snapshot ∧
    (s.reply c a).forcedBlack = s.forcedBlack ∧
    (s.reply c a).curves = s.curves ∧
    (s.reply c a).shadeH = s.shadeH ∧
    (s.reply c a).shadeV = s.shadeV ∧
    (s.reply c a).loader = s.loader ∧
    (s.reply c a).pool = s.pool ∧
    (s.reply c a).scenes = s.scenes ∧
    (s.reply c a).history = s.history ∧
    (s.reply c a).follower = s.follower ∧
    (s.reply c a).controller = s.controller ∧
    (s.reply c a).detector = s.detector ∧
    (s.reply c a).roster = s.roster ∧
    (s.reply c a).rollCall = s.rollCall ∧
    (s.reply c a).enables = s.enables ∧
    (s.reply c a).profile = s.profile ∧
    (s.reply c a).freeCount = s.freeCount ∧
    (s.reply c a).pending = s.pending := by
  rw [State.reply_eq s c a]
  exact ⟨rfl, rfl, rfl, rfl, rfl, rfl, rfl, rfl, rfl, rfl, rfl, rfl, rfl, rfl, rfl, rfl, rfl, rfl, rfl, rfl, rfl, rfl⟩

/-- Making room in the history touches it and the pool (R87). -/
theorem State.discardOldest_eq :
    s.discardOldest = { s with pool := (s.discardOldest).pool, history := (s.discardOldest).history } := by
  unfold State.discardOldest
  split
  · split <;> rfl
  · rfl

/-- Making room in the history touches it and the pool (R87). -/
@[simp] theorem State.discardOldest_fields :
    (s.discardOldest).straps = s.straps ∧
    (s.discardOldest).resetHeld = s.resetHeld ∧
    (s.discardOldest).video = s.video ∧
    (s.discardOldest).raster = s.raster ∧
    (s.discardOldest).snapshot = s.snapshot ∧
    (s.discardOldest).forcedBlack = s.forcedBlack ∧
    (s.discardOldest).curves = s.curves ∧
    (s.discardOldest).shadeH = s.shadeH ∧
    (s.discardOldest).shadeV = s.shadeV ∧
    (s.discardOldest).loader = s.loader ∧
    (s.discardOldest).scenes = s.scenes ∧
    (s.discardOldest).follower = s.follower ∧
    (s.discardOldest).controller = s.controller ∧
    (s.discardOldest).detector = s.detector ∧
    (s.discardOldest).line = s.line ∧
    (s.discardOldest).roster = s.roster ∧
    (s.discardOldest).rollCall = s.rollCall ∧
    (s.discardOldest).latches = s.latches ∧
    (s.discardOldest).enables = s.enables ∧
    (s.discardOldest).profile = s.profile ∧
    (s.discardOldest).freeCount = s.freeCount ∧
    (s.discardOldest).pending = s.pending := by
  rw [State.discardOldest_eq s]
  exact ⟨rfl, rfl, rfl, rfl, rfl, rfl, rfl, rfl, rfl, rfl, rfl, rfl, rfl, rfl, rfl, rfl, rfl, rfl, rfl, rfl, rfl, rfl⟩

/-- A push touches the history and the pool (R87). -/
theorem State.push_eq (e : Entry) :
    s.push e = { s with pool := (s.push e).pool, history := (s.push e).history } := by
  unfold State.push
  dsimp only
  rw [State.discardOldest_eq]

/-- A push touches the history and the pool (R87). -/
@[simp] theorem State.push_fields (e : Entry) :
    (s.push e).straps = s.straps ∧
    (s.push e).resetHeld = s.resetHeld ∧
    (s.push e).video = s.video ∧
    (s.push e).raster = s.raster ∧
    (s.push e).snapshot = s.snapshot ∧
    (s.push e).forcedBlack = s.forcedBlack ∧
    (s.push e).curves = s.curves ∧
    (s.push e).shadeH = s.shadeH ∧
    (s.push e).shadeV = s.shadeV ∧
    (s.push e).loader = s.loader ∧
    (s.push e).scenes = s.scenes ∧
    (s.push e).follower = s.follower ∧
    (s.push e).controller = s.controller ∧
    (s.push e).detector = s.detector ∧
    (s.push e).line = s.line ∧
    (s.push e).roster = s.roster ∧
    (s.push e).rollCall = s.rollCall ∧
    (s.push e).latches = s.latches ∧
    (s.push e).enables = s.enables ∧
    (s.push e).profile = s.profile ∧
    (s.push e).freeCount = s.freeCount ∧
    (s.push e).pending = s.pending := by
  rw [State.push_eq s e]
  exact ⟨rfl, rfl, rfl, rfl, rfl, rfl, rfl, rfl, rfl, rfl, rfl, rfl, rfl, rfl, rfl, rfl, rfl, rfl, rfl, rfl, rfl, rfl⟩

/-- Inserting a record touches the table, the history and the pool (R73, R81). -/
theorem State.insertRecord_eq (r : Scene) :
    s.insertRecord r = { s with pool := (s.insertRecord r).pool, scenes := (s.insertRecord r).scenes, history := (s.insertRecord r).history } := by
  unfold State.insertRecord
  dsimp only
  rw [State.push_eq]

/-- Inserting a record touches the table, the history and the pool (R73, R81). -/
@[simp] theorem State.insertRecord_fields (r : Scene) :
    (s.insertRecord r).straps = s.straps ∧
    (s.insertRecord r).resetHeld = s.resetHeld ∧
    (s.insertRecord r).video = s.video ∧
    (s.insertRecord r).raster = s.raster ∧
    (s.insertRecord r).snapshot = s.snapshot ∧
    (s.insertRecord r).forcedBlack = s.forcedBlack ∧
    (s.insertRecord r).curves = s.curves ∧
    (s.insertRecord r).shadeH = s.shadeH ∧
    (s.insertRecord r).shadeV = s.shadeV ∧
    (s.insertRecord r).loader = s.loader ∧
    (s.insertRecord r).follower = s.follower ∧
    (s.insertRecord r).controller = s.controller ∧
    (s.insertRecord r).detector = s.detector ∧
    (s.insertRecord r).line = s.line ∧
    (s.insertRecord r).roster = s.roster ∧
    (s.insertRecord r).rollCall = s.rollCall ∧
    (s.insertRecord r).latches = s.latches ∧
    (s.insertRecord r).enables = s.enables ∧
    (s.insertRecord r).profile = s.profile ∧
    (s.insertRecord r).freeCount = s.freeCount ∧
    (s.insertRecord r).pending = s.pending := by
  rw [State.insertRecord_eq s r]
  exact ⟨rfl, rfl, rfl, rfl, rfl, rfl, rfl, rfl, rfl, rfl, rfl, rfl, rfl, rfl, rfl, rfl, rfl, rfl, rfl, rfl, rfl⟩

/-- What a cut proposal can touch (R81). -/
theorem State.propose_eq (f : Nat) (o : Origin) :
    s.propose f o = { s with pool := (s.propose f o).pool, scenes := (s.propose f o).scenes, history := (s.propose f o).history, line := (s.propose f o).line, latches := (s.propose f o).latches } := by
  unfold State.propose
  split
  · rfl
  · split
    · rw [State.raise_eq]
    · rw [State.insertRecord_eq]

/-- What a cut proposal can touch (R81). -/
@[simp] theorem State.propose_fields (f : Nat) (o : Origin) :
    (s.propose f o).straps = s.straps ∧
    (s.propose f o).resetHeld = s.resetHeld ∧
    (s.propose f o).video = s.video ∧
    (s.propose f o).raster = s.raster ∧
    (s.propose f o).snapshot = s.snapshot ∧
    (s.propose f o).forcedBlack = s.forcedBlack ∧
    (s.propose f o).curves = s.curves ∧
    (s.propose f o).shadeH = s.shadeH ∧
    (s.propose f o).shadeV = s.shadeV ∧
    (s.propose f o).loader = s.loader ∧
    (s.propose f o).follower = s.follower ∧
    (s.propose f o).controller = s.controller ∧
    (s.propose f o).detector = s.detector ∧
    (s.propose f o).roster = s.roster ∧
    (s.propose f o).rollCall = s.rollCall ∧
    (s.propose f o).enables = s.enables ∧
    (s.propose f o).profile = s.profile ∧
    (s.propose f o).freeCount = s.freeCount ∧
    (s.propose f o).pending = s.pending := by
  rw [State.propose_eq s f o]
  exact ⟨rfl, rfl, rfl, rfl, rfl, rfl, rfl, rfl, rfl, rfl, rfl, rfl, rfl, rfl, rfl, rfl, rfl, rfl, rfl⟩

/-- Completing a dissolve touches the controller and the pool (R123). -/
theorem State.completeDissolve_eq :
    s.completeDissolve = { s with pool := (s.completeDissolve).pool, controller := (s.completeDissolve).controller } := by
  unfold State.completeDissolve
  split <;> rfl

/-- Completing a dissolve touches the controller and the pool (R123). -/
@[simp] theorem State.completeDissolve_fields :
    (s.completeDissolve).straps = s.straps ∧
    (s.completeDissolve).resetHeld = s.resetHeld ∧
    (s.completeDissolve).video = s.video ∧
    (s.completeDissolve).raster = s.raster ∧
    (s.completeDissolve).snapshot = s.snapshot ∧
    (s.completeDissolve).forcedBlack = s.forcedBlack ∧
    (s.completeDissolve).curves = s.curves ∧
    (s.completeDissolve).shadeH = s.shadeH ∧
    (s.completeDissolve).shadeV = s.shadeV ∧
    (s.completeDissolve).loader = s.loader ∧
    (s.completeDissolve).scenes = s.scenes ∧
    (s.completeDissolve).history = s.history ∧
    (s.completeDissolve).follower = s.follower ∧
    (s.completeDissolve).detector = s.detector ∧
    (s.completeDissolve).line = s.line ∧
    (s.completeDissolve).roster = s.roster ∧
    (s.completeDissolve).rollCall = s.rollCall ∧
    (s.completeDissolve).latches = s.latches ∧
    (s.completeDissolve).enables = s.enables ∧
    (s.completeDissolve).profile = s.profile ∧
    (s.completeDissolve).freeCount = s.freeCount ∧
    (s.completeDissolve).pending = s.pending := by
  rw [State.completeDissolve_eq s]
  exact ⟨rfl, rfl, rfl, rfl, rfl, rfl, rfl, rfl, rfl, rfl, rfl, rfl, rfl, rfl, rfl, rfl, rfl, rfl, rfl, rfl, rfl, rfl⟩

/-- What a line reset can touch (R188, Table 11-4). -/
theorem State.takeLineReset_eq (a : Station) :
    s.takeLineReset a = { s with forcedBlack := (s.takeLineReset a).forcedBlack, loader := (s.takeLineReset a).loader, follower := (s.takeLineReset a).follower, line := (s.takeLineReset a).line, roster := (s.takeLineReset a).roster, rollCall := (s.takeLineReset a).rollCall, latches := (s.takeLineReset a).latches } := by
  unfold State.takeLineReset
  split
  · rfl
  · rw [State.offer_eq]

/-- What a line reset can touch (R188, Table 11-4). -/
@[simp] theorem State.takeLineReset_fields (a : Station) :
    (s.takeLineReset a).straps = s.straps ∧
    (s.takeLineReset a).resetHeld = s.resetHeld ∧
    (s.takeLineReset a).video = s.video ∧
    (s.takeLineReset a).raster = s.raster ∧
    (s.takeLineReset a).snapshot = s.snapshot ∧
    (s.takeLineReset a).curves = s.curves ∧
    (s.takeLineReset a).shadeH = s.shadeH ∧
    (s.takeLineReset a).shadeV = s.shadeV ∧
    (s.takeLineReset a).pool = s.pool ∧
    (s.takeLineReset a).scenes = s.scenes ∧
    (s.takeLineReset a).history = s.history ∧
    (s.takeLineReset a).controller = s.controller ∧
    (s.takeLineReset a).detector = s.detector ∧
    (s.takeLineReset a).enables = s.enables ∧
    (s.takeLineReset a).profile = s.profile ∧
    (s.takeLineReset a).freeCount = s.freeCount ∧
    (s.takeLineReset a).pending = s.pending := by
  rw [State.takeLineReset_eq s a]
  exact ⟨rfl, rfl, rfl, rfl, rfl, rfl, rfl, rfl, rfl, rfl, rfl, rfl, rfl, rfl, rfl, rfl, rfl⟩

/-- LINE RESETs taken one after the other touch what one touches. -/
theorem foldl_takeLineReset_eq (as : List Station) :
    as.foldl (fun s a => s.takeLineReset a) s =
      { s with
        forcedBlack := (as.foldl (fun s a => s.takeLineReset a) s).forcedBlack
        loader := (as.foldl (fun s a => s.takeLineReset a) s).loader
        follower := (as.foldl (fun s a => s.takeLineReset a) s).follower
        line := (as.foldl (fun s a => s.takeLineReset a) s).line
        roster := (as.foldl (fun s a => s.takeLineReset a) s).roster
        rollCall := (as.foldl (fun s a => s.takeLineReset a) s).rollCall
        latches := (as.foldl (fun s a => s.takeLineReset a) s).latches } := by
  induction as generalizing s with
  | nil => rfl
  | cons a as ih =>
    simp only [List.foldl_cons]
    rw [ih, State.takeLineReset_eq]

/-- What the LINE RESETs taken at the end of a service can touch (R172). -/
theorem State.takeWaiting_eq :
    s.takeWaiting = { s with forcedBlack := (s.takeWaiting).forcedBlack, loader := (s.takeWaiting).loader, follower := (s.takeWaiting).follower, line := (s.takeWaiting).line, roster := (s.takeWaiting).roster, rollCall := (s.takeWaiting).rollCall, latches := (s.takeWaiting).latches } := by
  unfold State.takeWaiting
  rw [foldl_takeLineReset_eq]

/-- What the LINE RESETs taken at the end of a service can touch (R172). -/
@[simp] theorem State.takeWaiting_fields :
    (s.takeWaiting).straps = s.straps ∧
    (s.takeWaiting).resetHeld = s.resetHeld ∧
    (s.takeWaiting).video = s.video ∧
    (s.takeWaiting).raster = s.raster ∧
    (s.takeWaiting).snapshot = s.snapshot ∧
    (s.takeWaiting).curves = s.curves ∧
    (s.takeWaiting).shadeH = s.shadeH ∧
    (s.takeWaiting).shadeV = s.shadeV ∧
    (s.takeWaiting).pool = s.pool ∧
    (s.takeWaiting).scenes = s.scenes ∧
    (s.takeWaiting).history = s.history ∧
    (s.takeWaiting).controller = s.controller ∧
    (s.takeWaiting).detector = s.detector ∧
    (s.takeWaiting).enables = s.enables ∧
    (s.takeWaiting).profile = s.profile ∧
    (s.takeWaiting).freeCount = s.freeCount ∧
    (s.takeWaiting).pending = s.pending := by
  rw [State.takeWaiting_eq s]
  exact ⟨rfl, rfl, rfl, rfl, rfl, rfl, rfl, rfl, rfl, rfl, rfl, rfl, rfl, rfl, rfl, rfl, rfl⟩

/-- The follower's boundary work touches it, the line and the latches (R108 to R114). -/
theorem State.followBoundary_eq :
    s.followBoundary = { s with follower := (s.followBoundary).follower, line := (s.followBoundary).line, latches := (s.followBoundary).latches } := by
  unfold State.followBoundary
  dsimp only
  split
  · rw [State.raise_eq]
  · rfl

/-- The follower's boundary work touches it, the line and the latches (R108 to R114). -/
@[simp] theorem State.followBoundary_fields :
    (s.followBoundary).straps = s.straps ∧
    (s.followBoundary).resetHeld = s.resetHeld ∧
    (s.followBoundary).video = s.video ∧
    (s.followBoundary).raster = s.raster ∧
    (s.followBoundary).snapshot = s.snapshot ∧
    (s.followBoundary).forcedBlack = s.forcedBlack ∧
    (s.followBoundary).curves = s.curves ∧
    (s.followBoundary).shadeH = s.shadeH ∧
    (s.followBoundary).shadeV = s.shadeV ∧
    (s.followBoundary).loader = s.loader ∧
    (s.followBoundary).pool = s.pool ∧
    (s.followBoundary).scenes = s.scenes ∧
    (s.followBoundary).history = s.history ∧
    (s.followBoundary).controller = s.controller ∧
    (s.followBoundary).detector = s.detector ∧
    (s.followBoundary).roster = s.roster ∧
    (s.followBoundary).rollCall = s.rollCall ∧
    (s.followBoundary).enables = s.enables ∧
    (s.followBoundary).profile = s.profile ∧
    (s.followBoundary).freeCount = s.freeCount ∧
    (s.followBoundary).pending = s.pending := by
  rw [State.followBoundary_eq s]
  exact ⟨rfl, rfl, rfl, rfl, rfl, rfl, rfl, rfl, rfl, rfl, rfl, rfl, rfl, rfl, rfl, rfl, rfl, rfl, rfl, rfl, rfl⟩

/-- Advancing a dissolve touches the controller and the pool (R123). -/
theorem State.advanceDissolve_eq :
    s.advanceDissolve = { s with pool := (s.advanceDissolve).pool, controller := (s.advanceDissolve).controller } := by
  unfold State.advanceDissolve
  split
  · split
    · rfl
    · rw [State.completeDissolve_eq]
  · rfl

/-- Advancing a dissolve touches the controller and the pool (R123). -/
@[simp] theorem State.advanceDissolve_fields :
    (s.advanceDissolve).straps = s.straps ∧
    (s.advanceDissolve).resetHeld = s.resetHeld ∧
    (s.advanceDissolve).video = s.video ∧
    (s.advanceDissolve).raster = s.raster ∧
    (s.advanceDissolve).snapshot = s.snapshot ∧
    (s.advanceDissolve).forcedBlack = s.forcedBlack ∧
    (s.advanceDissolve).curves = s.curves ∧
    (s.advanceDissolve).shadeH = s.shadeH ∧
    (s.advanceDissolve).shadeV = s.shadeV ∧
    (s.advanceDissolve).loader = s.loader ∧
    (s.advanceDissolve).scenes = s.scenes ∧
    (s.advanceDissolve).history = s.history ∧
    (s.advanceDissolve).follower = s.follower ∧
    (s.advanceDissolve).detector = s.detector ∧
    (s.advanceDissolve).line = s.line ∧
    (s.advanceDissolve).roster = s.roster ∧
    (s.advanceDissolve).rollCall = s.rollCall ∧
    (s.advanceDissolve).latches = s.latches ∧
    (s.advanceDissolve).enables = s.enables ∧
    (s.advanceDissolve).profile = s.profile ∧
    (s.advanceDissolve).freeCount = s.freeCount ∧
    (s.advanceDissolve).pending = s.pending := by
  rw [State.advanceDissolve_eq s]
  exact ⟨rfl, rfl, rfl, rfl, rfl, rfl, rfl, rfl, rfl, rfl, rfl, rfl, rfl, rfl, rfl, rfl, rfl, rfl, rfl, rfl, rfl, rfl⟩

/-- A cut touches the controller and the pool (R127). -/
theorem State.cutTo_eq (r : Scene) :
    s.cutTo r = { s with pool := (s.cutTo r).pool, controller := (s.cutTo r).controller } := by
  unfold State.cutTo
  dsimp only
  rw [State.completeDissolve_eq]

/-- A cut touches the controller and the pool (R127). -/
@[simp] theorem State.cutTo_fields (r : Scene) :
    (s.cutTo r).straps = s.straps ∧
    (s.cutTo r).resetHeld = s.resetHeld ∧
    (s.cutTo r).video = s.video ∧
    (s.cutTo r).raster = s.raster ∧
    (s.cutTo r).snapshot = s.snapshot ∧
    (s.cutTo r).forcedBlack = s.forcedBlack ∧
    (s.cutTo r).curves = s.curves ∧
    (s.cutTo r).shadeH = s.shadeH ∧
    (s.cutTo r).shadeV = s.shadeV ∧
    (s.cutTo r).loader = s.loader ∧
    (s.cutTo r).scenes = s.scenes ∧
    (s.cutTo r).history = s.history ∧
    (s.cutTo r).follower = s.follower ∧
    (s.cutTo r).detector = s.detector ∧
    (s.cutTo r).line = s.line ∧
    (s.cutTo r).roster = s.roster ∧
    (s.cutTo r).rollCall = s.rollCall ∧
    (s.cutTo r).latches = s.latches ∧
    (s.cutTo r).enables = s.enables ∧
    (s.cutTo r).profile = s.profile ∧
    (s.cutTo r).freeCount = s.freeCount ∧
    (s.cutTo r).pending = s.pending := by
  rw [State.cutTo_eq s r]
  exact ⟨rfl, rfl, rfl, rfl, rfl, rfl, rfl, rfl, rfl, rfl, rfl, rfl, rfl, rfl, rfl, rfl, rfl, rfl, rfl, rfl, rfl, rfl⟩

/-- A dissolve's start touches the controller and the pool (R128). -/
theorem State.dissolveTo_eq (r : Scene) :
    s.dissolveTo r = { s with pool := (s.dissolveTo r).pool, controller := (s.dissolveTo r).controller } := by
  unfold State.dissolveTo
  dsimp only
  rw [State.completeDissolve_eq]

/-- A dissolve's start touches the controller and the pool (R128). -/
@[simp] theorem State.dissolveTo_fields (r : Scene) :
    (s.dissolveTo r).straps = s.straps ∧
    (s.dissolveTo r).resetHeld = s.resetHeld ∧
    (s.dissolveTo r).video = s.video ∧
    (s.dissolveTo r).raster = s.raster ∧
    (s.dissolveTo r).snapshot = s.snapshot ∧
    (s.dissolveTo r).forcedBlack = s.forcedBlack ∧
    (s.dissolveTo r).curves = s.curves ∧
    (s.dissolveTo r).shadeH = s.shadeH ∧
    (s.dissolveTo r).shadeV = s.shadeV ∧
    (s.dissolveTo r).loader = s.loader ∧
    (s.dissolveTo r).scenes = s.scenes ∧
    (s.dissolveTo r).history = s.history ∧
    (s.dissolveTo r).follower = s.follower ∧
    (s.dissolveTo r).detector = s.detector ∧
    (s.dissolveTo r).line = s.line ∧
    (s.dissolveTo r).roster = s.roster ∧
    (s.dissolveTo r).rollCall = s.rollCall ∧
    (s.dissolveTo r).latches = s.latches ∧
    (s.dissolveTo r).enables = s.enables ∧
    (s.dissolveTo r).profile = s.profile ∧
    (s.dissolveTo r).freeCount = s.freeCount ∧
    (s.dissolveTo r).pending = s.pending := by
  rw [State.dissolveTo_eq s r]
  exact ⟨rfl, rfl, rfl, rfl, rfl, rfl, rfl, rfl, rfl, rfl, rfl, rfl, rfl, rfl, rfl, rfl, rfl, rfl, rfl, rfl, rfl, rfl⟩

/-- A SCENE ENTERED report touches the line and the latches (R129). -/
theorem State.reportScene_eq (r : Scene) (f : CurrentFrame) (k : Transition) :
    s.reportScene r f k = { s with line := (s.reportScene r f k).line, latches := (s.reportScene r f k).latches } := by
  unfold State.reportScene
  split
  · rw [State.offer_eq]
  · rfl

/-- A SCENE ENTERED report touches the line and the latches (R129). -/
@[simp] theorem State.reportScene_fields (r : Scene) (f : CurrentFrame) (k : Transition) :
    (s.reportScene r f k).straps = s.straps ∧
    (s.reportScene r f k).resetHeld = s.resetHeld ∧
    (s.reportScene r f k).video = s.video ∧
    (s.reportScene r f k).raster = s.raster ∧
    (s.reportScene r f k).snapshot = s.snapshot ∧
    (s.reportScene r f k).forcedBlack = s.forcedBlack ∧
    (s.reportScene r f k).curves = s.curves ∧
    (s.reportScene r f k).shadeH = s.shadeH ∧
    (s.reportScene r f k).shadeV = s.shadeV ∧
    (s.reportScene r f k).loader = s.loader ∧
    (s.reportScene r f k).pool = s.pool ∧
    (s.reportScene r f k).scenes = s.scenes ∧
    (s.reportScene r f k).history = s.history ∧
    (s.reportScene r f k).follower = s.follower ∧
    (s.reportScene r f k).controller = s.controller ∧
    (s.reportScene r f k).detector = s.detector ∧
    (s.reportScene r f k).roster = s.roster ∧
    (s.reportScene r f k).rollCall = s.rollCall ∧
    (s.reportScene r f k).enables = s.enables ∧
    (s.reportScene r f k).profile = s.profile ∧
    (s.reportScene r f k).freeCount = s.freeCount ∧
    (s.reportScene r f k).pending = s.pending := by
  rw [State.reportScene_eq s r f k]
  exact ⟨rfl, rfl, rfl, rfl, rfl, rfl, rfl, rfl, rfl, rfl, rfl, rfl, rfl, rfl, rfl, rfl, rfl, rfl, rfl, rfl, rfl, rfl⟩

/-- A transition's firing (R126 to R129). -/
theorem State.fireTransition_eq (b : Bool) (f : CurrentFrame) (r : Scene) :
    s.fireTransition b f r = { s with pool := (s.fireTransition b f r).pool, controller := (s.fireTransition b f r).controller, line := (s.fireTransition b f r).line, latches := (s.fireTransition b f r).latches } := by
  unfold State.fireTransition
  dsimp only
  cases transitionKind b f r s.controller.holdExit <;> dsimp only <;>
    rw [State.reportScene_eq]
  · rw [State.cutTo_eq]
  · rw [State.dissolveTo_eq]

/-- A transition's firing (R126 to R129). -/
@[simp] theorem State.fireTransition_fields (b : Bool) (f : CurrentFrame) (r : Scene) :
    (s.fireTransition b f r).straps = s.straps ∧
    (s.fireTransition b f r).resetHeld = s.resetHeld ∧
    (s.fireTransition b f r).video = s.video ∧
    (s.fireTransition b f r).raster = s.raster ∧
    (s.fireTransition b f r).snapshot = s.snapshot ∧
    (s.fireTransition b f r).forcedBlack = s.forcedBlack ∧
    (s.fireTransition b f r).curves = s.curves ∧
    (s.fireTransition b f r).shadeH = s.shadeH ∧
    (s.fireTransition b f r).shadeV = s.shadeV ∧
    (s.fireTransition b f r).loader = s.loader ∧
    (s.fireTransition b f r).scenes = s.scenes ∧
    (s.fireTransition b f r).history = s.history ∧
    (s.fireTransition b f r).follower = s.follower ∧
    (s.fireTransition b f r).detector = s.detector ∧
    (s.fireTransition b f r).roster = s.roster ∧
    (s.fireTransition b f r).rollCall = s.rollCall ∧
    (s.fireTransition b f r).enables = s.enables ∧
    (s.fireTransition b f r).profile = s.profile ∧
    (s.fireTransition b f r).freeCount = s.freeCount ∧
    (s.fireTransition b f r).pending = s.pending := by
  rw [State.fireTransition_eq s b f r]
  exact ⟨rfl, rfl, rfl, rfl, rfl, rfl, rfl, rfl, rfl, rfl, rfl, rfl, rfl, rfl, rfl, rfl, rfl, rfl, rfl, rfl⟩

/-- A lookup and what it fires (R125, R126). -/
theorem State.lookUp_eq (b : Bool) (f : CurrentFrame) :
    s.lookUp b f = { s with pool := (s.lookUp b f).pool, controller := (s.lookUp b f).controller, line := (s.lookUp b f).line, latches := (s.lookUp b f).latches } := by
  unfold State.lookUp
  dsimp only
  split
  · rw [State.fireTransition_eq]
  · rfl

/-- A lookup and what it fires (R125, R126). -/
@[simp] theorem State.lookUp_fields (b : Bool) (f : CurrentFrame) :
    (s.lookUp b f).straps = s.straps ∧
    (s.lookUp b f).resetHeld = s.resetHeld ∧
    (s.lookUp b f).video = s.video ∧
    (s.lookUp b f).raster = s.raster ∧
    (s.lookUp b f).snapshot = s.snapshot ∧
    (s.lookUp b f).forcedBlack = s.forcedBlack ∧
    (s.lookUp b f).curves = s.curves ∧
    (s.lookUp b f).shadeH = s.shadeH ∧
    (s.lookUp b f).shadeV = s.shadeV ∧
    (s.lookUp b f).loader = s.loader ∧
    (s.lookUp b f).scenes = s.scenes ∧
    (s.lookUp b f).history = s.history ∧
    (s.lookUp b f).follower = s.follower ∧
    (s.lookUp b f).detector = s.detector ∧
    (s.lookUp b f).roster = s.roster ∧
    (s.lookUp b f).rollCall = s.rollCall ∧
    (s.lookUp b f).enables = s.enables ∧
    (s.lookUp b f).profile = s.profile ∧
    (s.lookUp b f).freeCount = s.freeCount ∧
    (s.lookUp b f).pending = s.pending := by
  rw [State.lookUp_eq s b f]
  exact ⟨rfl, rfl, rfl, rfl, rfl, rfl, rfl, rfl, rfl, rfl, rfl, rfl, rfl, rfl, rfl, rfl, rfl, rfl, rfl, rfl⟩

/-- Holding touches the controller and the pool (R124). -/
theorem State.keepScene_eq :
    s.keepScene = { s with pool := (s.keepScene).pool, controller := (s.keepScene).controller } := by
  unfold State.keepScene
  dsimp only
  rw [State.completeDissolve_eq]

/-- Holding touches the controller and the pool (R124). -/
@[simp] theorem State.keepScene_fields :
    (s.keepScene).straps = s.straps ∧
    (s.keepScene).resetHeld = s.resetHeld ∧
    (s.keepScene).video = s.video ∧
    (s.keepScene).raster = s.raster ∧
    (s.keepScene).snapshot = s.snapshot ∧
    (s.keepScene).forcedBlack = s.forcedBlack ∧
    (s.keepScene).curves = s.curves ∧
    (s.keepScene).shadeH = s.shadeH ∧
    (s.keepScene).shadeV = s.shadeV ∧
    (s.keepScene).loader = s.loader ∧
    (s.keepScene).scenes = s.scenes ∧
    (s.keepScene).history = s.history ∧
    (s.keepScene).follower = s.follower ∧
    (s.keepScene).detector = s.detector ∧
    (s.keepScene).line = s.line ∧
    (s.keepScene).roster = s.roster ∧
    (s.keepScene).rollCall = s.rollCall ∧
    (s.keepScene).latches = s.latches ∧
    (s.keepScene).enables = s.enables ∧
    (s.keepScene).profile = s.profile ∧
    (s.keepScene).freeCount = s.freeCount ∧
    (s.keepScene).pending = s.pending := by
  rw [State.keepScene_eq s]
  exact ⟨rfl, rfl, rfl, rfl, rfl, rfl, rfl, rfl, rfl, rfl, rfl, rfl, rfl, rfl, rfl, rfl, rfl, rfl, rfl, rfl, rfl, rfl⟩

/-- The controller's boundary work (R123 to R130). -/
theorem State.controllerBoundary_eq (b : Bool) :
    s.controllerBoundary b = { s with pool := (s.controllerBoundary b).pool, controller := (s.controllerBoundary b).controller, line := (s.controllerBoundary b).line, latches := (s.controllerBoundary b).latches } := by
  unfold State.controllerBoundary State.refreshContexts
  dsimp only
  rw [State.advanceDissolve_eq]
  split
  · rw [State.keepScene_eq]
  · split
    · rw [State.lookUp_eq]
    · rfl

/-- The controller's boundary work (R123 to R130). -/
@[simp] theorem State.controllerBoundary_fields (b : Bool) :
    (s.controllerBoundary b).straps = s.straps ∧
    (s.controllerBoundary b).resetHeld = s.resetHeld ∧
    (s.controllerBoundary b).video = s.video ∧
    (s.controllerBoundary b).raster = s.raster ∧
    (s.controllerBoundary b).snapshot = s.snapshot ∧
    (s.controllerBoundary b).forcedBlack = s.forcedBlack ∧
    (s.controllerBoundary b).curves = s.curves ∧
    (s.controllerBoundary b).shadeH = s.shadeH ∧
    (s.controllerBoundary b).shadeV = s.shadeV ∧
    (s.controllerBoundary b).loader = s.loader ∧
    (s.controllerBoundary b).scenes = s.scenes ∧
    (s.controllerBoundary b).history = s.history ∧
    (s.controllerBoundary b).follower = s.follower ∧
    (s.controllerBoundary b).detector = s.detector ∧
    (s.controllerBoundary b).roster = s.roster ∧
    (s.controllerBoundary b).rollCall = s.rollCall ∧
    (s.controllerBoundary b).enables = s.enables ∧
    (s.controllerBoundary b).profile = s.profile ∧
    (s.controllerBoundary b).freeCount = s.freeCount ∧
    (s.controllerBoundary b).pending = s.pending := by
  rw [State.controllerBoundary_eq s b]
  exact ⟨rfl, rfl, rfl, rfl, rfl, rfl, rfl, rfl, rfl, rfl, rfl, rfl, rfl, rfl, rfl, rfl, rfl, rfl, rfl, rfl⟩

/-- The detector's firing (R146, R148). -/
theorem State.fire_eq (m : Measure) :
    s.fire m = { s with pool := (s.fire m).pool, scenes := (s.fire m).scenes, history := (s.fire m).history, line := (s.fire m).line, latches := (s.fire m).latches } := by
  unfold State.fire
  generalize TxCue.mk 15 _ = c
  dsimp only
  by_cases h : s.reportsCut = true <;> simp only [h, if_true, Bool.false_eq_true, if_false] <;> split
  · rw [State.propose_eq, State.offer_eq]
  · rw [State.offer_eq]
  · rw [State.propose_eq]
  · rfl

/-- The detector's firing (R146, R148). -/
@[simp] theorem State.fire_fields (m : Measure) :
    (s.fire m).straps = s.straps ∧
    (s.fire m).resetHeld = s.resetHeld ∧
    (s.fire m).video = s.video ∧
    (s.fire m).raster = s.raster ∧
    (s.fire m).snapshot = s.snapshot ∧
    (s.fire m).forcedBlack = s.forcedBlack ∧
    (s.fire m).curves = s.curves ∧
    (s.fire m).shadeH = s.shadeH ∧
    (s.fire m).shadeV = s.shadeV ∧
    (s.fire m).loader = s.loader ∧
    (s.fire m).follower = s.follower ∧
    (s.fire m).controller = s.controller ∧
    (s.fire m).detector = s.detector ∧
    (s.fire m).roster = s.roster ∧
    (s.fire m).rollCall = s.rollCall ∧
    (s.fire m).enables = s.enables ∧
    (s.fire m).profile = s.profile ∧
    (s.fire m).freeCount = s.freeCount ∧
    (s.fire m).pending = s.pending := by
  rw [State.fire_eq s m]
  exact ⟨rfl, rfl, rfl, rfl, rfl, rfl, rfl, rfl, rfl, rfl, rfl, rfl, rfl, rfl, rfl, rfl, rfl, rfl, rfl⟩

/-- The firing and the controller's work, in either order (R147). -/
theorem State.fireAndControl_eq (m : Option Measure) (b : Bool) :
    s.fireAndControl m b = { s with pool := (s.fireAndControl m b).pool, scenes := (s.fireAndControl m b).scenes, history := (s.fireAndControl m b).history, line := (s.fireAndControl m b).line, latches := (s.fireAndControl m b).latches, controller := (s.fireAndControl m b).controller, freeCount := (s.fireAndControl m b).freeCount } := by
  unfold State.fireAndControl
  split
  · rw [State.controllerBoundary_eq]
  · dsimp only
    split
    · rw [State.controllerBoundary_eq, State.fire_eq]
    · rw [State.fire_eq, State.controllerBoundary_eq]

/-- The firing and the controller's work, in either order (R147). -/
@[simp] theorem State.fireAndControl_fields (m : Option Measure) (b : Bool) :
    (s.fireAndControl m b).straps = s.straps ∧
    (s.fireAndControl m b).resetHeld = s.resetHeld ∧
    (s.fireAndControl m b).video = s.video ∧
    (s.fireAndControl m b).raster = s.raster ∧
    (s.fireAndControl m b).snapshot = s.snapshot ∧
    (s.fireAndControl m b).forcedBlack = s.forcedBlack ∧
    (s.fireAndControl m b).curves = s.curves ∧
    (s.fireAndControl m b).shadeH = s.shadeH ∧
    (s.fireAndControl m b).shadeV = s.shadeV ∧
    (s.fireAndControl m b).loader = s.loader ∧
    (s.fireAndControl m b).follower = s.follower ∧
    (s.fireAndControl m b).detector = s.detector ∧
    (s.fireAndControl m b).roster = s.roster ∧
    (s.fireAndControl m b).rollCall = s.rollCall ∧
    (s.fireAndControl m b).enables = s.enables ∧
    (s.fireAndControl m b).profile = s.profile ∧
    (s.fireAndControl m b).pending = s.pending := by
  rw [State.fireAndControl_eq s m b]
  exact ⟨rfl, rfl, rfl, rfl, rfl, rfl, rfl, rfl, rfl, rfl, rfl, rfl, rfl, rfl, rfl, rfl, rfl⟩

/-- An install replaces one table (R39). -/
theorem State.installTable_eq (t : LoadTarget) (b : List Nat) :
    s.installTable t b = { s with curves := (s.installTable t b).curves, shadeH := (s.installTable t b).shadeH, shadeV := (s.installTable t b).shadeV } := by
  unfold State.installTable
  split
  · split <;> rfl
  · rfl
  · rfl

/-- An install replaces one table (R39). -/
@[simp] theorem State.installTable_fields (t : LoadTarget) (b : List Nat) :
    (s.installTable t b).straps = s.straps ∧
    (s.installTable t b).resetHeld = s.resetHeld ∧
    (s.installTable t b).video = s.video ∧
    (s.installTable t b).raster = s.raster ∧
    (s.installTable t b).snapshot = s.snapshot ∧
    (s.installTable t b).forcedBlack = s.forcedBlack ∧
    (s.installTable t b).loader = s.loader ∧
    (s.installTable t b).pool = s.pool ∧
    (s.installTable t b).scenes = s.scenes ∧
    (s.installTable t b).history = s.history ∧
    (s.installTable t b).follower = s.follower ∧
    (s.installTable t b).controller = s.controller ∧
    (s.installTable t b).detector = s.detector ∧
    (s.installTable t b).line = s.line ∧
    (s.installTable t b).roster = s.roster ∧
    (s.installTable t b).rollCall = s.rollCall ∧
    (s.installTable t b).latches = s.latches ∧
    (s.installTable t b).enables = s.enables ∧
    (s.installTable t b).profile = s.profile ∧
    (s.installTable t b).freeCount = s.freeCount ∧
    (s.installTable t b).pending = s.pending := by
  rw [State.installTable_eq s t b]
  exact ⟨rfl, rfl, rfl, rfl, rfl, rfl, rfl, rfl, rfl, rfl, rfl, rfl, rfl, rfl, rfl, rfl, rfl, rfl, rfl, rfl, rfl⟩

/-- The loader's boundary work (R39). -/
theorem State.installBoundary_eq :
    s.installBoundary = { s with curves := (s.installBoundary).curves, shadeH := (s.installBoundary).shadeH, shadeV := (s.installBoundary).shadeV, loader := (s.installBoundary).loader, line := (s.installBoundary).line, latches := (s.installBoundary).latches } := by
  unfold State.installBoundary
  split
  · dsimp only
    split
    · rw [State.offer_eq, State.installTable_eq]
    · rw [State.installTable_eq]
  · rfl

/-- The loader's boundary work (R39). -/
@[simp] theorem State.installBoundary_fields :
    (s.installBoundary).straps = s.straps ∧
    (s.installBoundary).resetHeld = s.resetHeld ∧
    (s.installBoundary).video = s.video ∧
    (s.installBoundary).raster = s.raster ∧
    (s.installBoundary).snapshot = s.snapshot ∧
    (s.installBoundary).forcedBlack = s.forcedBlack ∧
    (s.installBoundary).pool = s.pool ∧
    (s.installBoundary).scenes = s.scenes ∧
    (s.installBoundary).history = s.history ∧
    (s.installBoundary).follower = s.follower ∧
    (s.installBoundary).controller = s.controller ∧
    (s.installBoundary).detector = s.detector ∧
    (s.installBoundary).roster = s.roster ∧
    (s.installBoundary).rollCall = s.rollCall ∧
    (s.installBoundary).enables = s.enables ∧
    (s.installBoundary).profile = s.profile ∧
    (s.installBoundary).freeCount = s.freeCount ∧
    (s.installBoundary).pending = s.pending := by
  rw [State.installBoundary_eq s]
  exact ⟨rfl, rfl, rfl, rfl, rfl, rfl, rfl, rfl, rfl, rfl, rfl, rfl, rfl, rfl, rfl, rfl, rfl, rfl⟩

/-- What a declaration of loss of lock touches (R161, Table 9-4). -/
theorem State.loseLock_eq :
    s.loseLock = { s with raster := (s.loseLock).raster, forcedBlack := (s.loseLock).forcedBlack, line := (s.loseLock).line, latches := (s.loseLock).latches, pool := (s.loseLock).pool, controller := (s.loseLock).controller, follower := (s.loseLock).follower, detector := (s.loseLock).detector } := by
  unfold State.loseLock
  dsimp only
  rw [State.completeDissolve_eq, State.raise_eq]

/-- What a declaration of loss of lock touches (R161, Table 9-4). -/
@[simp] theorem State.loseLock_fields :
    (s.loseLock).straps = s.straps ∧
    (s.loseLock).resetHeld = s.resetHeld ∧
    (s.loseLock).video = s.video ∧
    (s.loseLock).snapshot = s.snapshot ∧
    (s.loseLock).curves = s.curves ∧
    (s.loseLock).shadeH = s.shadeH ∧
    (s.loseLock).shadeV = s.shadeV ∧
    (s.loseLock).loader = s.loader ∧
    (s.loseLock).scenes = s.scenes ∧
    (s.loseLock).history = s.history ∧
    (s.loseLock).roster = s.roster ∧
    (s.loseLock).rollCall = s.rollCall ∧
    (s.loseLock).enables = s.enables ∧
    (s.loseLock).profile = s.profile ∧
    (s.loseLock).freeCount = s.freeCount ∧
    (s.loseLock).pending = s.pending := by
  rw [State.loseLock_eq s]
  exact ⟨rfl, rfl, rfl, rfl, rfl, rfl, rfl, rfl, rfl, rfl, rfl, rfl, rfl, rfl, rfl, rfl⟩

/-- What a bad field touches (R158, R159). -/
theorem State.badField_eq :
    s.badField = { s with raster := (s.badField).raster, forcedBlack := (s.badField).forcedBlack, line := (s.badField).line, latches := (s.badField).latches, pool := (s.badField).pool, controller := (s.badField).controller, follower := (s.badField).follower, detector := (s.badField).detector } := by
  unfold State.badField
  split
  · split
    · rfl
    · rw [State.loseLock_eq]
  · rfl

/-- What a bad field touches (R158, R159). -/
@[simp] theorem State.badField_fields :
    (s.badField).straps = s.straps ∧
    (s.badField).resetHeld = s.resetHeld ∧
    (s.badField).video = s.video ∧
    (s.badField).snapshot = s.snapshot ∧
    (s.badField).curves = s.curves ∧
    (s.badField).shadeH = s.shadeH ∧
    (s.badField).shadeV = s.shadeV ∧
    (s.badField).loader = s.loader ∧
    (s.badField).scenes = s.scenes ∧
    (s.badField).history = s.history ∧
    (s.badField).roster = s.roster ∧
    (s.badField).rollCall = s.rollCall ∧
    (s.badField).enables = s.enables ∧
    (s.badField).profile = s.profile ∧
    (s.badField).freeCount = s.freeCount ∧
    (s.badField).pending = s.pending := by
  rw [State.badField_eq s]
  exact ⟨rfl, rfl, rfl, rfl, rfl, rfl, rfl, rfl, rfl, rfl, rfl, rfl, rfl, rfl, rfl, rfl⟩

/-- A good field touches the lock monitor (R158, R159). -/
theorem State.goodField_eq :
    s.goodField = { s with raster := (s.goodField).raster } := by
  unfold State.goodField
  split
  · rfl
  · split <;> rfl

/-- A good field touches the lock monitor (R158, R159). -/
@[simp] theorem State.goodField_fields :
    (s.goodField).straps = s.straps ∧
    (s.goodField).resetHeld = s.resetHeld ∧
    (s.goodField).video = s.video ∧
    (s.goodField).snapshot = s.snapshot ∧
    (s.goodField).forcedBlack = s.forcedBlack ∧
    (s.goodField).curves = s.curves ∧
    (s.goodField).shadeH = s.shadeH ∧
    (s.goodField).shadeV = s.shadeV ∧
    (s.goodField).loader = s.loader ∧
    (s.goodField).pool = s.pool ∧
    (s.goodField).scenes = s.scenes ∧
    (s.goodField).history = s.history ∧
    (s.goodField).follower = s.follower ∧
    (s.goodField).controller = s.controller ∧
    (s.goodField).detector = s.detector ∧
    (s.goodField).line = s.line ∧
    (s.goodField).roster = s.roster ∧
    (s.goodField).rollCall = s.rollCall ∧
    (s.goodField).latches = s.latches ∧
    (s.goodField).enables = s.enables ∧
    (s.goodField).profile = s.profile ∧
    (s.goodField).freeCount = s.freeCount ∧
    (s.goodField).pending = s.pending := by
  rw [State.goodField_eq s]
  exact ⟨rfl, rfl, rfl, rfl, rfl, rfl, rfl, rfl, rfl, rfl, rfl, rfl, rfl, rfl, rfl, rfl, rfl, rfl, rfl, rfl, rfl, rfl, rfl⟩

/-! ## Services -/

/-- The service of the FIFO's head: its changes and its reply are made, it leaves the FIFO, and the LINE RESETs that waited are taken (R173, R174). -/
theorem serve_head (c : Cue) (act : State → State) (h : s.line.fifo.head? = some c) :
    serve c act s =
      State.takeWaiting (act { s with line := { s.line with fifo := s.line.fifo.tail } }) := by
  cases hf : s.line.fifo with
  | nil => simp [hf] at h
  | cons a rest =>
    obtain rfl : a = c := by simpa [hf] using h
    simp [serve, hf]

/-- In ROLLCALL a request is answered WRONG_STATE (R174). -/
theorem handle_rollcall (c : Cue) (owner : State → State × Answer)
    (h : s.engineState = .rollcall) : handle c owner s = s.reply c (refuse .wrongState) := by
  simp [handle, h]

/-- Outside ROLLCALL a source that is no CONSOLE is answered DENIED (R174). -/
theorem handle_denied (c : Cue) (owner : State → State × Answer)
    (h : s.engineState ≠ .rollcall) (hr : s.role c.src ≠ some .console) :
    handle c owner s = s.reply c (refuse .denied) := by
  simp [handle, h, hr]

/-- Otherwise the owner decides (R174). -/
theorem handle_owner (c : Cue) (owner : State → State × Answer)
    (h : s.engineState ≠ .rollcall) (hr : s.role c.src = some .console) :
    handle c owner s = (owner s).1.reply c (owner s).2 := by
  simp [handle, h, hr]

/-! ## The pool -/

/-- No operation of the pool changes how many slots it has. -/
@[simp] theorem Pool.recount_length (f : Nat → Nat) (n : Nat) (p : Pool) :
    (p.recount f n).slots.length = p.slots.length := by
  unfold Pool.recount
  split
  · rfl
  · split <;> simp

@[simp] theorem Pool.write_length (n : Nat) (g : Grade) (p : Pool) :
    (p.write n g).slots.length = p.slots.length := by
  unfold Pool.write
  split <;> simp

@[simp] theorem Pool.claim_length (n : Nat) (p : Pool) :
    (p.claim n).slots.length = p.slots.length := Pool.recount_length _ n p

@[simp] theorem Pool.release_length (n : Nat) (p : Pool) :
    (p.release n).slots.length = p.slots.length := Pool.recount_length _ n p

/-- A slot after its count, or another's, is changed: slot 0 keeps none (R46, R49). -/
theorem Pool.slot_recount (f : Nat → Nat) (n m : Nat) (p : Pool) :
    (p.recount f n).slot m =
      if m = n ∧ n ≠ 0 then (p.slot m).map (fun r => { r with refs := f r.refs }) else p.slot m := by
  unfold Pool.recount
  by_cases hn : n = 0
  · simp [hn]
  · simp only [hn, if_false, ne_eq, not_false_eq_true, and_true]
    cases hp : p.slot n with
    | none => by_cases hm : m = n <;> simp [hm, hp]
    | some r =>
      have hl : n < p.slots.length := by
        by_contra hge
        simp [Pool.slot, List.getD, List.getElem?_eq_none (by omega : p.slots.length ≤ n)] at hp
      by_cases hm : m = n
      · subst hm
        simp [Pool.slot, List.getD, hl] at hp ⊢
        simp [hp]
      · simp [Pool.slot, List.getD, hm, Ne.symm hm]

/-- The frame is the engine's own cue: no framing error, and the very bytes it sent whole (R166, R171). -/
theorem State.isOwnCue_iff (f : Frame) :
    s.isOwnCue f = true ↔ f.framingError = false ∧ s.line.sentWhole = some f.bytes := by
  simp [State.isOwnCue]

/-- A missing-sync expiry leaves the field's capture void, whether or not it declares a loss (R141, R160). -/
theorem State.missingSync_capture : s.missingSync.detector.capture = none := by
  unfold State.missingSync State.badField
  split
  · split
    · rfl
    · rfl
  · rfl

/-- What an event does to line and latches reads straps, enables, latches and line alone (R178, R191). -/
theorem State.raise_congr (l : Latch) (t : State) (hs : t.straps = s.straps)
    (he : t.enables = s.enables) (hl : t.line = s.line) (hf : t.latches = s.latches) :
    (t.raise l).line = (s.raise l).line ∧ (t.raise l).latches = (s.raise l).latches := by
  unfold State.raise State.offer State.overflow State.held State.reports State.latch
  simp only [hs, he, hl, hf]
  repeat' split
  all_goals simp_all

/-- A declaration of loss does to line and latches what SYNC_LOST's event does (R161). -/
theorem State.loseLock_event :
    s.loseLock.line = (s.raise .syncLost).line ∧
    s.loseLock.latches = (s.raise .syncLost).latches := by
  have hd : ∀ t : State, t.completeDissolve.line = t.line ∧ t.completeDissolve.latches = t.latches := by
    intro t
    unfold State.completeDissolve
    split <;> exact ⟨rfl, rfl⟩
  have hr := s.raise_congr .syncLost
    { s with
      raster := { s.raster with locked := false, goodRun := 0, badRun := 0 }
      forcedBlack := true } rfl rfl rfl rfl
  exact ⟨(hd _).1.trans hr.1, (hd _).2.trans hr.2⟩

/-! ## The transmit queue -/

/-- A cue joins: it is added to the others, and nothing else is (R177). -/
theorem mem_insertTx (e x : TxEntry) (q : List TxEntry) : x ∈ insertTx e q ↔ x = e ∨ x ∈ q := by
  unfold insertTx
  simp only [List.mem_append, List.mem_filter, List.mem_cons, decide_eq_true_eq]
  constructor
  · rintro (⟨h, -⟩ | rfl | ⟨h, -⟩)
    · exact .inr h
    · exact .inl rfl
    · exact .inr h
  · rintro (rfl | h)
    · exact .inr (.inl rfl)
    · rcases Nat.lt_or_ge e.cls x.cls with hc | hc
      · exact .inr (.inr ⟨h, hc⟩)
      · exact .inl ⟨h, hc⟩

/-- A cue joins: the queue is one longer (R177). -/
theorem length_insertTx (e : TxEntry) (q : List TxEntry) : (insertTx e q).length = q.length + 1 := by
  have h := List.length_eq_length_filter_add (l := q) (fun x : TxEntry => decide (x.cls ≤ e.cls))
  have h2 : (fun x : TxEntry => !decide (x.cls ≤ e.cls)) = fun x => decide (e.cls < x.cls) := by
    funext x
    rw [Bool.eq_iff_iff]
    simp
  rw [h2] at h
  unfold insertTx
  simp only [List.length_append, List.length_cons]
  omega

/-- Contention changes the deferral alone (R165). -/
@[simp] theorem Line.contend_fields (a : Station) (l : Line) :
    (l.contend a).fifo = l.fifo ∧ (l.contend a).lineResets = l.lineResets ∧
    (l.contend a).tx = l.tx ∧ (l.contend a).nextJoin = l.nextJoin ∧
    (l.contend a).inFlight = l.inFlight ∧ (l.contend a).idle = l.idle ∧
    (l.contend a).sentWhole = l.sentWhole ∧ (l.contend a).mute = l.mute := by
  unfold Line.contend
  split
  · exact ⟨rfl, rfl, rfl, rfl, rfl, rfl, rfl, rfl⟩
  · split <;> exact ⟨rfl, rfl, rfl, rfl, rfl, rfl, rfl, rfl⟩

/-- The deferral after contention: one whose cue is still queued goes on; otherwise the first cue of an idle, unmuted line with nothing in flight begins one, and none runs in any other case (R165, R179). -/
theorem Line.contend_deferral (a : Station) (l : Line) :
    (∀ d, l.deferral = some d → (∃ e ∈ l.tx, e.joined = d.joined) →
      (l.contend a).deferral = some d) ∧
    ((∀ d, l.deferral = some d → ∀ e ∈ l.tx, e.joined ≠ d.joined) →
      (l.contend a).deferral =
        if l.idle = true ∧ l.mute = false ∧ l.inFlight = none then
          l.tx.head?.map (fun e => ⟨e.joined, deferralSlots e.cls a⟩)
        else none) := by
  unfold Line.contend
  constructor
  · intro d hd h
    simp [hd, Option.filter, h]
  · intro h
    have hf : l.deferral.filter (fun d => l.tx.any (fun e => e.joined == d.joined)) = none := by
      simpa [Option.filter_eq_none_iff] using h
    simp only [hf]
    cases l.idle <;> cases l.mute <;> cases l.inFlight <;> simp

/-- An offer leaves what is received, the cue in flight and the mute (R178). -/
@[simp] theorem Line.offered_fields (a : Station) (c : TxCue) (l : Line) :
    (l.offered a c).fifo = l.fifo ∧ (l.offered a c).lineResets = l.lineResets ∧
    (l.offered a c).inFlight = l.inFlight ∧ (l.offered a c).idle = l.idle ∧
    (l.offered a c).sentWhole = l.sentWhole ∧ (l.offered a c).mute = l.mute := by
  unfold Line.offered
  split
  · split
    · simp [Line.join]
    · exact ⟨rfl, rfl, rfl, rfl, rfl, rfl⟩
  · simp [Line.join]

end Sys2Proof.Machine
end

