-- ==== Sys2Proof/Tests/Slice0.lean ====
section
/-! SUPPORT. The author's tests. First the smoke test of WellFormed; then at most two small tests of each command, their values from the worked examples and tables of spec/; then, for every obligation that has hypotheses, one theorem that shows states and operands which meet them. -/

namespace Sys2Proof.Tests

open Sys2Proof.Machine Sys2Proof.Safety

/-! ## WellFormed refuses what is ill-formed -/

/-- Station 15 sends nothing (R171 test 3). -/
theorem test_wellformed_refuses_source_15 :
    (Instr.hold 15).wellFormed = false ∧ (Instr.undo 15 5).wellFormed = false ∧
    (Instr.hold 14).wellFormed = true := by decide

/-- LOAD DATA carries 1 to 8 values (Table 10-4). -/
theorem test_wellformed_refuses_load_data_lengths :
    (Instr.loadData 2 5 []).wellFormed = false ∧
    (Instr.loadData 2 5 (List.replicate 9 0)).wellFormed = false ∧
    (Instr.loadData 2 5 (List.replicate 8 0)).wellFormed = true := by decide

/-- PORT WRITE carries 1 to 6 bytes of contents (Table 10-4). -/
theorem test_wellformed_refuses_port_write_lengths :
    (Instr.portWrite 2 5 9 []).wellFormed = false ∧
    (Instr.portWrite 2 5 9 (List.replicate 7 0)).wellFormed = false ∧
    (Instr.portWrite 2 5 9 (List.replicate 6 0)).wellFormed = true := by decide

/-! ## Small states for the tests -/

/-- The state a command leaves. -/
def after (c : Instr) (s : State) : State :=
  match exec c s with
  | .next t => t
  | .fault _ => s
  | .refused _ => s

/-- The engine of the examples: station 5, 525, DETECT and PEERCUTS on. -/
def straps5 : Straps := ⟨5, .s525, true, true⟩

/-- Transport at 1, consoles at 2 and 3, engines at 5, 6 and 8. -/
def bayRoster : List (Option Role) :=
  [none, some .transport, some .console, some .console, none, some .engine, some .engine, none,
    some .engine, none, none, none, none, none, none]

/-- The engine in FOLLOW: the window over, lock held, reel 4001 of 9000 frames, frame 1000 shown. -/
def bay : State :=
  { State.powerOn straps5 with
    roster := bayRoster
    rollCall := none
    forcedBlack := false
    raster := ⟨true, 262, true, 0, 0, 0⟩
    follower := ⟨some ⟨4001, 9000⟩, 501, [], some ⟨999, .fwd, .play, 3, 3⟩, 0, false, false⟩
    line := { Line.quiet false with idle := true } }

/-- The engine with these cues waiting in its FIFO. -/
def serving (s : State) (cs : List Cue) : State := { s with line := { s.line with fifo := cs } }

/-- The engine with no reel: STANDBY. -/
def standby : State :=
  { bay with follower := ⟨none, 501, [], none, 0, false, false⟩ }

/-- The engine after power-on, in ROLLCALL and UNSYNC. -/
def starting : State := State.powerOn straps5

/-- The cues queued to be sent. -/
def queued (s : State) : List TxCue := s.line.tx.map (·.cue)

/-- Slots 3 and 4 allocated, each named once by its record; CURRENT names slot 3 (Section 7.5). -/
def dissolveBay : State :=
  { bay with
    pool := ⟨[some ⟨Grade.flat, 0⟩, none, none, some ⟨Grade.flat, 2⟩, some ⟨Grade.flat, 1⟩] ++
      List.replicate 123 none⟩
    scenes := [Scene.head, ⟨1200, 3, .cut, 1, .console, true⟩, ⟨1500, 4, .dissolve, 4, .console, true⟩]
    history := ⟨[], false⟩
    controller := ⟨⟨3, Grade.flat, false⟩, none, 1200, 0, 0, false⟩
    follower := ⟨some ⟨4001, 9000⟩, 2999, [⟨1500, .fwd, .play, 3, 3000⟩],
      some ⟨1499, .fwd, .play, 2, 2⟩, 0, false, false⟩ }

/-- A dissolve under way, k = 2 of 4, in a field whose sync comes early (Section 9.6). -/
def dissolving : State :=
  { dissolveBay with
    pool := ⟨[some ⟨Grade.flat, 0⟩, none, none, some ⟨Grade.flat, 2⟩, some ⟨Grade.flat, 2⟩] ++
      List.replicate 123 none⟩
    raster := ⟨true, 181, true, 0, 1, 0⟩
    controller := ⟨⟨3, Grade.flat, false⟩, some ⟨4, Grade.flat, false⟩, 1500, 4, 2, false⟩
    follower := { dissolveBay.follower with schedule := [], current := some ⟨1500, .fwd, .play, 3, 2⟩ } }

/-- A histogram with these bins. -/
def binsWith (l : List (Nat × Nat)) : List Nat :=
  l.foldl (fun b p => b.set p.1 p.2) (List.replicate 16 0)

/-- The engine as field 9005, the first field of frame 4992, ends (Section 8.8). -/
def cutBay : State :=
  { bay with
    pool := ⟨[some ⟨Grade.flat, 0⟩, none, none, none, none, none, none, some ⟨Grade.flat, 2⟩] ++
      List.replicate 120 none⟩
    scenes := [Scene.head, ⟨4800, 7, .cut, 1, .console, true⟩]
    history := ⟨[], false⟩
    controller := ⟨⟨7, Grade.flat, false⟩, none, 4800, 0, 0, false⟩
    detector := ⟨binsWith [(1, 3000), (2, 2100), (6, 390)], some ⟨4992, .fwd, .play, 4800⟩,
      some ⟨4991, binsWith [(5, 1180), (6, 2540), (7, 1770)]⟩, none⟩
    follower := ⟨some ⟨4001, 9000⟩, 9005, [], some ⟨4992, .fwd, .play, 2, 1⟩, 0, false, false⟩ }

/-- The engine with 8 cues queued, as Section 10.7 numbers them. -/
def fullQueue : State :=
  let reply : TxBody := .reply 0x10 .done []
  let entered : TxBody := .sceneEntered 4001 0 0 0 .cut 0 0
  { bay with line := { bay.line with
    idle := false
    nextJoin := 9
    tx := [⟨⟨2, reply⟩, 1, 0⟩, ⟨⟨2, reply⟩, 3, 0⟩, ⟨⟨2, reply⟩, 6, 0⟩, ⟨⟨2, reply⟩, 8, 0⟩,
      ⟨⟨15, entered⟩, 2, 0⟩, ⟨⟨15, .cut 4001 7 400⟩, 4, 0⟩, ⟨⟨15, entered⟩, 7, 0⟩,
      ⟨⟨15, .present false⟩, 5, 0⟩] } }

/-- The engine sending the first cue of its queue, abandoned `n` times before. -/
def sending (n : Nat) : State :=
  { bay with line := { bay.line with
    idle := false, nextJoin := 2, inFlight := some 0
    tx := [⟨⟨2, .reply 0x10 .done []⟩, 0, n⟩, ⟨⟨15, .cut 4001 7 400⟩, 1, 0⟩] } }

/-- A load of curve 3 under way, its pointer at 3 (Section 2.8). -/
def loading : State :=
  { bay with loader := ⟨.filling, some (.curve 3), identityCurve, 3, .increment, none⟩ }

/-- The load waiting for a boundary, asked for by station 2. -/
def installing : State :=
  { bay with loader := ⟨.installPending, some (.curve 3), identityCurve.set 5 4096, 6, .increment, some 2⟩ }

/-- Slot 1 allocated with the flat grade and one vector, named by nobody. -/
def graded1 : State :=
  { bay with pool := ⟨[some ⟨Grade.flat, 0⟩,
      some ⟨⟨Grade.flat.primary, [⟨RGB.all 0, RGB.all 4095, RGB.all 0, none⟩]⟩, 0⟩] ++
    List.replicate 126 none⟩ }

/-- A vector with one offset and two coordinates out of range (Section 3.5). -/
def wideVector : WireVector :=
  ⟨⟨900, 0, 0⟩, ⟨800, 4095, 4095⟩, ⟨0, 0, 2000⟩, some ⟨100, 800, 40, 90⟩⟩

/-- The primary values of Section 3.5: a B gain of 5000. -/
def widePrimary : RGB WirePrimary :=
  ⟨⟨BitVec.ofInt 16 (-40), 1100, 3⟩, ⟨0, 1024, 0⟩, ⟨25, 5000, 3⟩⟩

/-! ## One or two tests of each command -/

theorem test_no_word_spells_a_command :
    decodeTableWord 16 0x0102 = none ∧ (bay.withFetchWord 16 0x0102).pending = [] := ⟨rfl, rfl⟩

/-- Section 11.8, t = 0: PRESENT with ask queued, the window started. -/
theorem test_power_on_queues_present :
    queued (after (.powerOnReset ⟨6, .s525, true, false⟩) bay) = [⟨15, .present true⟩] ∧
    (after (.powerOnReset ⟨6, .s525, true, false⟩) bay).engineState = .rollcall := by decide

/-- R181: the strap 15 mutes the engine and sets ADDRESS. -/
theorem test_power_on_strap_15 :
    (after (.powerOnReset ⟨15, .s525, true, false⟩) bay).line.mute = true ∧
    (after (.powerOnReset ⟨15, .s525, true, false⟩) bay).latches = 0x80 ∧
    queued (after (.powerOnReset ⟨15, .s525, true, false⟩) bay) = [] := by decide

theorem test_line_sync :
    (after .lineSync bay).raster.lineCount = 263 ∧
    (after .lineSync bay).video.clocksIntoLine = 0 := by decide

/-- Section 7.5, the boundary opening field 3000. -/
theorem test_field_sync_dissolve :
    (after (.fieldSync false) dissolveBay).controller.count = 1 ∧
    (after (.fieldSync false) dissolveBay).snapshot.weight = 51 ∧
    queued (after (.fieldSync false) dissolveBay) =
      [⟨15, .sceneEntered 4001 1500 1500 4 .dissolve 4 3000⟩] := by decide +kernel

/-- Section 6.10: the boundary opening field 801 coasts to frame 2001. -/
theorem test_field_sync_coasts :
    (after (.fieldSync true) { bay with follower :=
      ⟨some ⟨4001, 9000⟩, 800, [], some ⟨2000, .fwd, .play, 3, 3⟩, 0, false, false⟩ }).follower =
      ⟨some ⟨4001, 9000⟩, 801, [], some ⟨2001, .fwd, .play, 2, 1⟩, 1, false, false⟩ := by
  decide +kernel

/-- Section 9.6: the timer expires in field 4002, the bad run reaches 2. -/
theorem test_missing_sync_loses_lock :
    (after .missingSyncExpiry dissolving).engineState = .unsync ∧
    (after .missingSyncExpiry dissolving).controller.current.slot = 4 ∧
    queued (after .missingSyncExpiry dissolving) = [⟨15, .fault 8 8⟩] := by decide

/-- R160: a field ended by expiry has no closing boundary. -/
theorem test_expired_field_is_not_compared :
    cutBay.comparison.isSome = true ∧ (after .missingSyncExpiry cutBay).raster.locked = true ∧
    (after .missingSyncExpiry cutBay).comparison = none ∧
    (after .missingSyncExpiry cutBay).closedDetector.reference = cutBay.detector.reference := by
  decide +kernel

/-- Section 11.8, 500 ms: FOLLOW, frame unknown. -/
theorem test_roll_call_window_ends :
    (after .rollCallWindowEnd { bay with rollCall := some 1 }).engineState = .follow := by decide

/-- A HOLD from station 2 to all stations, its check computed outside this model. -/
theorem test_guard_takes_hold :
    (after (.guardComplete (some ⟨false, [0x09, 0xF2, 0x00, 0x27, 0xAE]⟩)) bay).follower.holdConsole =
      true := by decide +kernel

/-- A SCENE MARK from 2 to 5 in bytes (Tables 10-3, 10-9), its check computed outside this model. -/
theorem test_guard_queues_scene_mark :
    (after (.guardComplete (some ⟨false,
      [0x10, 0x52, 0x05, 0x00, 0xF0, 0xFF, 0x01, 0x04, 0xE6, 0x64]⟩)) bay).line.fifo =
      [⟨2, 5, .sceneMark 240 0xFF 1 4⟩] := by decide +kernel

/-- Table 6-2: a reel change leaves the head scene and slot 0 alone. -/
theorem test_reel_change :
    (after (.reel 1 4002 500) dissolveBay).scenes = [Scene.head] ∧
    (after (.reel 1 4002 500) dissolveBay).follower.reel = some ⟨4002, 500⟩ ∧
    (after (.reel 1 4002 500) dissolveBay).controller.current.slot = 0 := by decide

/-- R97: a length of 0 is answered with TIMING. -/
theorem test_reel_of_no_length : (after (.reel 1 4002 0) bay).latches = 0x10 := by decide

/-- Section 6.9: the reversing cue removes both entries and is due at 512. -/
theorem test_frame_reversal :
    (after (.frame 1 1002 .rev .play 1 2) { bay with follower := { bay.follower with
      fieldCount := 511
      schedule := [⟨1004, .fwd, .play, 2, 512⟩, ⟨1005, .fwd, .play, 3, 514⟩] } }).follower.schedule =
      [⟨1002, .rev, .play, 2, 512⟩] := by decide

/-- R103: a frame beyond the reel. -/
theorem test_frame_beyond_reel :
    (after (.frame 1 9000 .fwd .play 1 2) bay).latches = 0x10 ∧
    (after (.frame 1 9000 .fwd .play 1 2) bay).follower = bay.follower := by decide

/-- Table 11-3 and R184: an ask is answered with the own PRESENT. -/
theorem test_present_with_ask :
    (after (.present 7 3 1) bay).role 7 = some .recorder ∧
    queued (after (.present 7 3 1) bay) = [⟨15, .present false⟩] := by decide

/-- Table 11-4. -/
theorem test_line_reset :
    (after (.lineReset 2) bay).roster = ownRoster 5 ∧
    (after (.lineReset 2) bay).engineState = .rollcall ∧
    queued (after (.lineReset 2) bay) = [⟨15, .present false⟩] := by decide

theorem test_hold_and_release :
    (after (.hold 2) bay).engineState = .hold ∧
    (after (.release 2) (after (.hold 2) bay)).engineState = .follow ∧
    (after (.hold 1) bay).engineState = .follow := by decide

/-- Table 4-4 and R73: a mark at 240 with SAME, DISSOLVE, length 4. -/
theorem test_scene_mark :
    (after (.sceneMark 2 5 240 0xFF 1 4) bay).scenes =
      [Scene.head, ⟨240, 0, .dissolve, 4, .console, true⟩] ∧
    queued (after (.sceneMark 2 5 240 0xFF 1 4) bay) =
      [⟨2, .reply 0x10 .done [1, 0, 2, 0, 0]⟩] := by decide

theorem test_scene_clear_head_is_read_only :
    queued (after (.sceneClear 2 5 0) bay) = [⟨2, .reply 0x11 .readOnly []⟩] := by decide

/-- R170: position, records left and slot, one byte each. -/
theorem test_scene_clear :
    queued (after (.sceneClear 2 5 1200) dissolveBay) = [⟨2, .reply 0x11 .done [1, 2, 3]⟩] ∧
    (after (.sceneClear 2 5 1200) dissolveBay).scenes =
      [Scene.head, ⟨1500, 4, .dissolve, 4, .console, true⟩] ∧
    (after (.sceneClear 2 5 1200) dissolveBay).history.entries =
      [.sceneRemoved ⟨1200, 3, .cut, 1, .console, true⟩] := by decide

/-- R71, R75: length 99 is limited to 63. -/
theorem test_scene_set :
    (after (.sceneSet 2 5 1500 3 1 99 0) dissolveBay).scenes =
      [Scene.head, ⟨1200, 3, .cut, 1, .console, true⟩, ⟨1500, 3, .dissolve, 63, .console, true⟩] ∧
    queued (after (.sceneSet 2 5 1500 3 1 99 0) dissolveBay) =
      [⟨2, .reply 0x12 .doneClamped [2, 3, 1, 1]⟩] := by decide

theorem test_scene_purge :
    (after (.scenePurge 2 5) { bay with scenes :=
      [Scene.head, ⟨600, 0, .cut, 1, .peer 8, false⟩, ⟨700, 0, .cut, 1, .console, true⟩] }).scenes =
      [Scene.head, ⟨700, 0, .cut, 1, .console, true⟩] := by decide

/-- Table 4-5 for frame 1499: position, record count, start, next start, slot, transition, length, origin, confirmation. -/
theorem test_scene_query :
    queued (after (.sceneQuery 2 5 0 1499) dissolveBay) =
      [⟨2, .reply 0x14 .done [1, 0, 3, 0x04, 0xB0, 1, 0x05, 0xDC, 3, 0, 1, 0, 0, 1]⟩] := by decide

/-- R48: the lowest free slot. -/
theorem test_grade_new :
    queued (after (.gradeNew 2 5) dissolveBay) = [⟨2, .reply 0x18 .done [1]⟩] := by decide

/-- Section 3.5: the B gain 5000 is limited to 4095. -/
theorem test_grade_primary :
    queued (after (.gradePrimary 2 5 1 widePrimary) graded1) = [⟨2, .reply 0x19 .doneClamped [1, 1]⟩] ∧
    ((after (.gradePrimary 2 5 1 widePrimary) graded1).pool.grade 1).primary =
      ⟨⟨-40, 1100, 3⟩, ⟨0, 1024, 0⟩, ⟨25, 4095, 3⟩⟩ := by decide

/-- Section 3.5: the offset 2000 and the coordinate 800 are limited. -/
theorem test_grade_vector :
    queued (after (.gradeVector 2 5 1 1 wideVector) graded1) =
      [⟨2, .reply 0x1A .doneClamped [1, 1, 2, 2]⟩] ∧
    ((after (.gradeVector 2 5 1 1 wideVector) graded1).pool.grade 1).vectors.getLast? =
      some ⟨⟨900, 0, 0⟩, ⟨800, 4095, 4095⟩, ⟨0, 0, 1023⟩, some ⟨100, 719, 40, 90⟩⟩ := by decide

theorem test_grade_vector_delete :
    queued (after (.gradeVectorDelete 2 5 1 0) graded1) = [⟨2, .reply 0x1B .done [1, 0]⟩] ∧
    queued (after (.gradeVectorDelete 2 5 1 1) graded1) = [⟨2, .reply 0x1B .notFound []⟩] := by decide

/-- Table 3-7: a slot that is named is IN_USE, with the count. -/
theorem test_grade_drop :
    queued (after (.gradeDrop 2 5 3) dissolveBay) = [⟨2, .reply 0x1C .inUse [0, 2]⟩] ∧
    (after (.gradeDrop 2 5 1) graded1).pool.slot 1 = none := by decide

/-- R170: the vector of Section 3.5, step 8, as stored, in 22 bytes. -/
theorem test_grade_query_vector :
    (queued (after (.gradeQuery 2 5 1 1 1) (after (.gradeVector 2 5 1 1 wideVector) graded1))).getLast? =
      some ⟨2, .reply 0x1D .done [0xC1, 0x38, 0x43, 0x20, 0x00, 0x0F, 0xFF, 0x00, 0x0F, 0xFF,
        0, 0, 0, 0, 0x03, 0xFF, 0x06, 0x42, 0xCF, 0x02, 0x80, 0x5A]⟩ := by decide +kernel

/-- Table 10-9: the flat primary part, count 0, one vector. -/
theorem test_grade_query :
    queued (after (.gradeQuery 2 5 1 0 0) graded1) = [⟨2, .reply 0x1D .done
      [0, 0, 0, 4, 0, 0, 0, 0, 4, 0, 0, 0, 0, 4, 0, 0, 0, 0, 1]⟩] := by decide

/-- Section 2.8, step 1: start index 260 on curve 3 gives pointer 3. -/
theorem test_load_start :
    queued (after (.loadStart 2 5 0 3 260 0) bay) = [⟨2, .reply 0x20 .done [0, 3]⟩] ∧
    (after (.loadStart 2 5 0 3 260 0) bay).loader.target = some (.curve 3) := by decide

/-- Section 2.8, step 2. -/
theorem test_load_data :
    queued (after (.loadData 2 5 [50, 64, 5000]) loading) =
      [⟨2, .reply 0x21 .doneClamped [0, 6, 1]⟩] ∧
    ((after (.loadData 2 5 [50, 64, 5000]) loading).loader.buffer.drop 2).take 5 =
      [32, 50, 64, 4096, 96] := by decide +kernel

/-- Section 2.8, step 4. -/
theorem test_load_install :
    (after (.loadInstall 2 5) loading).loader.state = .installPending ∧
    (after (.loadInstall 2 5) loading).loader.requester = some 2 ∧
    queued (after (.loadInstall 2 5) loading) = [] := by decide

/-- Section 2.9, step 6: two replies, in this order. -/
theorem test_load_cancel :
    queued (after (.loadCancel 2 5) installing) =
      [⟨2, .reply 0x22 .cancelled [0, 3]⟩, ⟨2, .reply 0x23 .done [2]⟩] := by decide

/-- Port 9 after power-on holds 300 (Table 12-2). -/
theorem test_port_read :
    queued (after (.portRead 2 5 9) bay) = [⟨2, .reply 0x28 .done [9, 0x01, 0x2C]⟩] := by decide

theorem test_port_write_report_enables :
    (after (.portWriteReportEnables 2 5 0xFFF7) bay).enables = 0x3F7 := by decide

theorem test_port_write_film_mode :
    (after (.portWriteFilmMode 2 5 1) bay).profile.filmRequested = .negative ∧
    (after (.portWriteFilmMode 2 5 1) bay).profile.filmInEffect = .positive := by decide

/-- The R row of Section 1.9, with one coefficient out of range. -/
theorem test_port_write_matrix :
    (after (.portWriteMatrix 2 5 .r ⟨300, BitVec.ofInt 16 (-30), 600⟩) bay).profile.matrix.r =
      ⟨300, -30, 511⟩ := by decide

theorem test_port_write_cut_threshold :
    queued (after (.portWriteCutThreshold 2 5 1025) bay) =
      [⟨2, .reply 0x29 .doneClamped [9, 0x04, 0x00]⟩] := by decide

theorem test_port_write_min_scene :
    (after (.portWriteMinScene 2 5 0) bay).profile.minScene = 1 := by decide

theorem test_port_write_refusals :
    queued (after (.portWrite 2 5 2 [0]) bay) = [⟨2, .reply 0x29 .readOnly []⟩] ∧
    queued (after (.portWrite 2 5 9 [0]) bay) = [⟨2, .reply 0x29 .notFound []⟩] := by decide

/-- R91: the inserted record leaves, and the reply carries kind, frame, depth and flag. -/
theorem test_undo :
    (after (.undo 2 5) (after (.sceneMark 2 5 240 0xFF 1 4) bay)).scenes = [Scene.head] ∧
    (queued (after (.undo 2 5) (after (.sceneMark 2 5 240 0xFF 1 4) bay))).getLast? =
      some ⟨2, .reply 0x2A .done [0, 0, 240, 0, 1]⟩ := by decide

/-- Section 12.4: COAST_HOLD stays while its cause stands. -/
theorem test_clear_faults :
    queued (after (.clearFaults 2 5 0x20) { bay with
      latches := 0x20, follower := { bay.follower with holdCoast := true } }) =
      [⟨2, .reply 0x2B .done [0x20]⟩] ∧
    (after (.clearFaults 2 5 0x20) { bay with latches := 0x20 }).latches = 0 := by decide

/-- Section 8.9: the record a peer's cut inserts. -/
theorem test_peer_cut :
    (after (.peerCut 8 15 4001 4992 944) bay).scenes =
      [Scene.head, ⟨4992, 0, .cut, 1, .peer 8, false⟩] ∧
    queued (after (.peerCut 8 15 4001 4992 944) bay) = [] := by decide

/-- Section 10.6: class 2 from station 9 defers 39 slots, class 3 from station 5 50 slots. -/
theorem test_deferral_slots : deferralSlots 2 9 = 39 ∧ deferralSlots 3 5 = 50 := by decide

theorem test_transmit_start_and_yield :
    (after .transmitStart (after (.guardComplete none) fullQueue)).line.inFlight = some 1 ∧
    (after .deferralYield (after (.guardComplete none) fullQueue)).line.deferral = none := by decide

/-- R166: three abandoned attempts are counted, the fourth discards the cue. -/
theorem test_transmit_abandon :
    (after .transmitAbandon (sending 2)).line.tx.map (·.attempts) = [3, 0] ∧
    (after .transmitAbandon (sending 3)).latches = 1 := by decide

theorem test_transmit_complete :
    queued (after .transmitComplete (sending 0)) = [⟨15, .cut 4001 7 400⟩] := by decide

/-- A REPLY from 5 to 2 in bytes (Tables 10-3, 10-9), its check computed outside this model. -/
theorem test_cue_on_the_line :
    (sending 0).onLine = some [0x2F, 0x25, 0x02, 0x10, 0x00, 0x9A, 0x59] := by decide +kernel

/-- R171: the engine's own whole cue is not taken, and its bytes with one more after them fail test 1. -/
theorem test_own_cue_and_more :
    (after (.guardComplete (some ⟨false, [0x2F, 0x25, 0x02, 0x10, 0x00, 0x9A, 0x59]⟩))
      (after .transmitComplete (sending 0))).latches = 0 ∧
    (after (.guardComplete (some ⟨false, [0x2F, 0x25, 0x02, 0x10, 0x00, 0x9A, 0x59, 0x00]⟩))
      (after .transmitComplete (sending 0))).latches = 1 := by decide +kernel

/-- R152: the sync inputs and codes sampled wait in the delay. -/
theorem test_pixel_clock :
    (after (.pixelClock 0 0 0 true false true) bay).video.delay.getLast? =
      some ⟨⟨64, 64, 64⟩, true, false, true⟩ ∧
    (after (.pixelClock 0 0 0 true false true) bay).video.out = OutPixel.blank := by decide

/-- R154, R186. -/
theorem test_reset_asserted :
    (after .resetAsserted fullQueue).line.tx = [] ∧
    (after .lineSync (after .resetAsserted bay)).raster.lineCount = 0 := by decide

/-- Section 1.10: the pixel at the limits. -/
theorem test_pixel_at_the_limits :
    pixelCodes { bay.snapshot with
      shadeH := [1280], shadeV := [1280]
      current := ⟨RGB.all ⟨511, 4095, 0⟩,
        [⟨RGB.all 0, RGB.all 4095, ⟨1023, -1023, -1023⟩, some ⟨0, 719, 0, 9⟩⟩]⟩ }
      .s625 0 0 ⟨4000, 100, 0⟩ = ⟨940, 88, 64⟩ := by decide +kernel

/-- Section 2.8: curve 3 of the example at 70. -/
theorem test_curve_between_points :
    curveStage ((identityCurve.set 4 64).set 5 4096) 70 = 1576 := by decide +kernel

/-- The published check value of this CRC-16 (PRESUMED: general knowledge, not the spec's). -/
theorem test_check_of_123456789 :
    crc16 [0x31, 0x32, 0x33, 0x34, 0x35, 0x36, 0x37, 0x38, 0x39] = 0x29B1 := by decide +kernel

/-- Section 10.7: the first offer to the full queue, and the FAULT it brings. -/
theorem test_full_queue :
    (fullQueue.offer ⟨15, .sceneEntered 4001 0 0 0 .cut 0 0⟩).line.tx.map (·.joined) =
      [10, 1, 3, 6, 8, 2, 4, 7] ∧
    (fullQueue.offer ⟨15, .sceneEntered 4001 0 0 0 .cut 0 0⟩).latches = 4 := by decide

/-- Section 8.8: the measure of frame 4992. -/
theorem test_measure : cutBay.firing = some ⟨951, 4992⟩ := by decide +kernel

/-! ## Every obligation's hypotheses can be met -/

/-- The command is one of RESET's two, as a Boolean. -/
def resets : Instr → Bool
  | .powerOnReset _ => true
  | .resetAsserted => true
  | _ => false

theorem not_isReset (c : Instr) (h : resets c = false) : ¬ IsReset c := by
  rintro (rfl | ⟨_, rfl⟩) <;> cases h

/-- `after` is the state a command leaves. -/
theorem exec_after (c : Instr) (s : State) : exec c s = .next (after c s) := by
  cases c <;> rfl

/-- Lines 0 to 127 of the scene table full, 256 records in all. -/
def fullTable : State :=
  { bay with
    scenes := (List.range 256).map (fun n => ⟨10 * n, 0, .cut, 1, .console, true⟩)
    history := ⟨[], false⟩ }

/-- Every slot allocated, none but slot 0 named. -/
def fullPool : State :=
  { bay with pool := ⟨some ⟨Grade.flat, 0⟩ :: List.replicate 127 (some ⟨Grade.flat, 0⟩)⟩ }

/-- Slot 1 with six vectors. -/
def sixVectors : State :=
  { bay with pool := ⟨[some ⟨Grade.flat, 0⟩,
      some ⟨⟨Grade.flat.primary, List.replicate 6 ⟨RGB.all 0, RGB.all 4095, RGB.all 0, none⟩⟩, 0⟩] ++
    List.replicate 126 none⟩ }

/-- A muted engine. -/
def mutedBay : State := { bay with line := Line.quiet true }

/-- One pixel clock. -/
def clock : Instr := .pixelClock 2048 2048 2048 false false true

theorem clocks_isPixelClock (n : Nat) : ∀ c ∈ List.replicate n clock, IsPixelClock c := by
  intro c h
  rw [List.eq_of_mem_replicate h]
  exact ⟨_, _, _, _, _, _, rfl⟩

theorem witness_ResetHeld :
    ¬ IsReset .lineSync ∧ (after .resetAsserted bay).resetHeld = true :=
  ⟨not_isReset _ rfl, by decide⟩

theorem witness_PowerOnMeetsLaws :
    exec (.powerOnReset straps5) bay = .next (after (.powerOnReset straps5) bay) := exec_after _ _

theorem witness_OnlyPowerOnReadsStraps :
    exec .lineSync mutedBay = .next (after .lineSync mutedBay) ∧
    (∀ straps, Instr.lineSync ≠ .powerOnReset straps) ∧ ¬ IsReset .lineSync ∧
    mutedBay.line.mute = true :=
  ⟨exec_after _ _, by simp, not_isReset _ rfl, rfl⟩

/-- The dissolve's boundary is the command that waits. -/
def waiting : State := { dissolveBay with pending := [.fieldSync false] }

theorem step_waiting : step waiting = .next (after (.fieldSync false) dissolveBay) :=
  exec_after (.fieldSync false) dissolveBay

theorem witness_StepKeepsScenes :
    ScenesSound waiting ∧ HistoryBounded waiting ∧ FollowerSound waiting ∧ DetectorSound waiting ∧
    step waiting = .next (after (.fieldSync false) dissolveBay) :=
  ⟨by decide +kernel, by decide, by decide +kernel, by decide +kernel, step_waiting⟩

theorem witness_StepKeepsPool :
    PoolSound waiting ∧ ScenesSound waiting ∧
    step waiting = .next (after (.fieldSync false) dissolveBay) :=
  ⟨by decide +kernel, by decide +kernel, step_waiting⟩

theorem witness_StepKeepsGrades :
    GradesSound waiting ∧ step waiting = .next (after (.fieldSync false) dissolveBay) := by
  refine ⟨⟨?_, ?_, ?_, ?_, ?_, ?_⟩, step_waiting⟩ <;>
    simp [waiting, dissolveBay, bay, State.powerOn, State.cold, straps5, Grade.flat, GradeOk,
      PrimaryOk, RGB.all, RGB.toList]

theorem witness_StepKeepsFollowing :
    FollowerSound waiting ∧ ControllerSound waiting ∧ DetectorSound waiting ∧ ScenesSound waiting ∧
    step waiting = .next (after (.fieldSync false) dissolveBay) :=
  ⟨by decide +kernel, by decide +kernel, by decide +kernel, by decide +kernel, step_waiting⟩

theorem witness_StepKeepsPicture :
    StoresSound waiting ∧ ProfileSound waiting ∧ VideoSound waiting ∧ RasterSound waiting ∧
    ControllerSound waiting ∧ ScenesSound waiting ∧
    step waiting = .next (after (.fieldSync false) dissolveBay) :=
  ⟨by decide +kernel, by decide +kernel, by decide +kernel, by decide +kernel, by decide +kernel,
    by decide +kernel, step_waiting⟩

theorem witness_StepKeepsLine :
    LineSound waiting ∧ RosterSound waiting ∧
    step waiting = .next (after (.fieldSync false) dissolveBay) :=
  ⟨by decide +kernel, by decide +kernel, step_waiting⟩

theorem witness_SnapshotOnlyAtBoundary :
    dissolveBay.resetHeld = false ∧ ¬ IsReset (.fieldSync false) ∧
    exec (.fieldSync false) dissolveBay = .next (after (.fieldSync false) dissolveBay) ∧
    (after (.fieldSync false) dissolveBay).raster.locked = true ∧
    (after (.fieldSync false) dissolveBay).controller.incoming ≠ none ∧
    exec (.fieldSync false) starting = .next (after (.fieldSync false) starting) ∧
    (after (.fieldSync false) starting).raster.locked = false :=
  ⟨rfl, not_isReset _ rfl, exec_after _ _, by decide +kernel, by decide +kernel, exec_after _ _,
    by decide +kernel⟩

theorem witness_InstallAtBoundary :
    Boundary true installing (after (.fieldSync true) installing) ∧ StoresSound installing ∧
    installing.loader.state = .installPending ∧ installing.loader.target = some (.curve 3) ∧
    2 ∈ installing.loader.requester ∧ installing.line.mute = false ∧
    (after (.fieldSync true) installing).line.tx.length < 8 ∧
    StoresSound { installing with loader := { installing.loader with requester := none } } ∧
    Boundary true { installing with loader := { installing.loader with requester := none } }
      (after (.fieldSync true)
        { installing with loader := { installing.loader with requester := none } }) :=
  ⟨⟨rfl, exec_after _ _, by decide +kernel⟩, by decide +kernel, rfl, rfl, rfl, rfl, by decide +kernel,
    by decide +kernel, rfl, exec_after _ _, by decide +kernel⟩

/-- Seven cues queued: the DONE of an install takes the eighth place (R39, R177). -/
theorem test_install_answer_takes_the_eighth_place :
    let s := { installing with line := { fullQueue.line with tx := fullQueue.line.tx.dropLast } }
    s.line.tx.length = 7 ∧ (after (.fieldSync true) s).line.tx.length = 8 ∧
    (queued (after (.fieldSync true) s)).contains
      ⟨2, .reply 0x22 .done ([0, 3] ++ natBytes 502)⟩ = true := by decide +kernel

theorem witness_LatchesStayHeld :
    ({ bay with latches := 0x20 } : State).held .coastHold = true ∧
    exec (.clearFaults 2 5 0x20) { bay with latches := 0x20 } =
      .next (after (.clearFaults 2 5 0x20) { bay with latches := 0x20 }) ∧
    (after (.clearFaults 2 5 0x20) { bay with latches := 0x20 }).held .coastHold = false ∧
    (after (.lineReset 2) { bay with latches := 0x20 }).held .coastHold = false ∧
    (after (.powerOnReset straps5) { bay with latches := 0x20 }).held .coastHold = false :=
  ⟨by decide, exec_after _ _, by decide, by decide, by decide⟩

theorem witness_HandlerRefusals :
    serviceCue (.gradeNew 2 5) = some ⟨2, 5, .gradeNew⟩ ∧
    AtHead ⟨2, 5, .gradeNew⟩ (serving starting [⟨2, 5, .gradeNew⟩]) ∧
    (serving starting [⟨2, 5, .gradeNew⟩]).engineState = .rollcall ∧
    AtHead ⟨1, 5, .gradeNew⟩ (serving bay [⟨1, 5, .gradeNew⟩]) ∧
    (serving bay [⟨1, 5, .gradeNew⟩]).engineState ≠ .rollcall ∧
    (serving bay [⟨1, 5, .gradeNew⟩]).role 1 ≠ some .console ∧
    (∀ r f m, (⟨2, 5, .gradeNew⟩ : Cue).body ≠ .cut r f m) ∧
    serviceCue (.peerCut 7 15 4001 7 0) = some ⟨7, 15, .cut 4001 7 0⟩ ∧
    AtHead ⟨7, 15, .cut 4001 7 0⟩ (serving starting [⟨7, 15, .cut 4001 7 0⟩]) ∧
    AtHead ⟨7, 15, .cut 4001 7 0⟩ (serving bay [⟨7, 15, .cut 4001 7 0⟩]) ∧
    (serving bay [⟨7, 15, .cut 4001 7 0⟩]).role 7 ≠ some .engine :=
  ⟨rfl, by decide, by decide, by decide, by decide, by decide, by simp, rfl, by decide, by decide,
    by decide⟩

theorem witness_ServiceNeedsItsCue :
    serviceCue (.gradeNew 2 5) = some ⟨2, 5, .gradeNew⟩ ∧
    (serving bay [⟨2, 5, .undo⟩]).resetHeld = false ∧ (serving bay [⟨2, 5, .undo⟩]).line.fifo ≠ [] ∧
    (serving bay [⟨2, 5, .undo⟩]).line.fifo.head? ≠ some ⟨2, 5, .gradeNew⟩ ∧
    bay.line.fifo = [] ∧ bay.line.lineResets = [] ∧
    admissible bay.straps.station ⟨2, 5, .gradeNew⟩ = true ∧
    admissible bay.straps.station ⟨15, 5, .gradeNew⟩ = false ∧
    admissible bay.straps.station ⟨5, 5, .gradeNew⟩ = false ∧
    admissible bay.straps.station ⟨2, 6, .gradeNew⟩ = false := by decide

theorem witness_ServiceEnd :
    bay.line.lineResets = [] ∧ (⟨2, 15, .undo⟩ : Cue).dst = 15 ∧ (⟨2, 5, .undo⟩ : Cue).dst ≠ 15 ∧
    ∃ a ∈ ({ bay with line := { bay.line with lineResets := [1, 2] } } : State).line.lineResets,
      ({ bay with line := { bay.line with lineResets := [1, 2] } } : State).role a = some .console := by
  decide

/-- Table 11-4 for a LINE RESET that waited for a service: loader, hold causes, black, and the own PRESENT alone. -/
theorem test_waiting_line_reset :
    let s := answered ⟨2, 5, .undo⟩ .empty [1] { installing with
      follower := { installing.follower with coast := 4, holdConsole := true, holdCoast := true }
      line := { installing.line with lineResets := [1, 2] } }
    s.loader.state = .idle ∧ s.follower = ⟨some ⟨4001, 9000⟩, 501, [], none, 0, false, false⟩ ∧
    s.forcedBlack = true ∧ queued s = [⟨15, .present false⟩] := by decide

theorem witness_LineResetEffects :
    (serving bay [⟨2, 5, .undo⟩]).resetHeld = false ∧ (serving bay [⟨2, 5, .undo⟩]).line.fifo ≠ [] ∧
    bay.resetHeld = false ∧ bay.line.fifo = [] ∧ bay.role 1 ≠ some .console ∧
    bay.role 2 = some .console ∧ mutedBay.line.fifo = [] ∧ mutedBay.role 2 = some .console := by
  decide

theorem witness_GuardStartsDeferral :
    fullQueue.resetHeld = false ∧ fullQueue.line.inFlight = none ∧
    (after .transmitComplete (sending 0)).line.inFlight = none ∧
    (∀ f ∈ some (⟨false, (sending 0).onLine.getD []⟩ : Frame), f.framingError = false ∧
      (after .transmitComplete (sending 0)).line.sentWhole = some f.bytes) ∧
    (sending 0).line.inFlight ≠ none := by decide +kernel

theorem witness_TransmitterCommands :
    LineSound (after (.guardComplete none) fullQueue) ∧
    (after (.guardComplete none) fullQueue).line.deferral = some ⟨1, 35⟩ ∧
    LineSound (sending 2) ∧ LineSound (sending 3) ∧ (sending 2).line.deferral = none ∧
    ⟨⟨2, .reply 0x10 .done []⟩, 0, 2⟩ ∈ (sending 2).line.tx ∧ (sending 2).line.inFlight = some 0 ∧
    ⟨⟨2, .reply 0x10 .done []⟩, 0, 3⟩ ∈ (sending 3).line.tx ∧ (sending 3).line.inFlight = some 0 ∧
    LineSound bay ∧ bay.line.inFlight = none :=
  ⟨by decide +kernel, by decide +kernel, by decide +kernel, by decide +kernel, by decide, by decide,
    rfl, by decide, rfl, by decide +kernel, rfl⟩

/-- The full queue on an idle line, the youngest cue of class 3 deferred for, TX_OVERFLOW held. -/
def deferringLast : State :=
  { fullQueue with
    latches := 4
    line := { fullQueue.line with idle := true, deferral := some ⟨7, 50⟩ } }

/-- A deferral that stays, one whose cue is replaced, and none before the offer on an idle line. -/
theorem witness_QueueOffer_deferral :
    LineSound deferringLast ∧ deferringLast.line.mute = false ∧
    deferringLast.held .txOverflow = true ∧
    (deferringLast.offer ⟨15, .present false⟩).line.deferral = some ⟨7, 50⟩ ∧
    (∀ d ∈ deferringLast.line.deferral,
      ∀ e ∈ (deferringLast.offer ⟨2, .reply 0x10 .done []⟩).line.tx, e.joined ≠ d.joined) ∧
    (deferringLast.offer ⟨2, .reply 0x10 .done []⟩).line.tx ≠ deferringLast.line.tx ∧
    LineSound bay ∧ bay.line.deferral = none ∧ bay.line.idle = true ∧
    (bay.offer ⟨15, .present false⟩).line.tx ≠ bay.line.tx :=
  ⟨by decide +kernel, rfl, by decide, by decide +kernel, by decide +kernel, by decide +kernel,
    by decide +kernel, rfl, rfl, by decide +kernel⟩

theorem witness_QueueOffer :
    LineSound mutedBay ∧ mutedBay.line.mute = true ∧
    LineSound (sending 0) ∧ (sending 0).line.mute = false ∧ (sending 0).line.tx.length < 8 ∧
    LineSound fullQueue ∧ fullQueue.line.mute = false ∧ fullQueue.line.tx.length = 8 ∧
    ({ fullQueue with latches := 4 } : State).held .txOverflow = true ∧
    ({ fullQueue with enables := 0 } : State).reports .txOverflow = false ∧
    fullQueue.held .txOverflow = false ∧ fullQueue.reports .txOverflow = true ∧
    (∃ v ∈ fullQueue.line.tx, (TxBody.reply 0x10 .done []).cls < v.cls ∧
      some v.joined ≠ fullQueue.line.inFlight ∧
      ∀ x ∈ fullQueue.line.tx, (TxBody.reply 0x10 .done []).cls < x.cls →
        some x.joined ≠ fullQueue.line.inFlight → x.joined ≤ v.joined) ∧
    (∀ v ∈ fullQueue.line.tx, (TxBody.present false).cls < v.cls →
      some v.joined = fullQueue.line.inFlight) :=
  ⟨by decide +kernel, rfl, by decide +kernel, rfl, by decide, by decide +kernel, rfl, rfl, by decide,
    by decide, by decide, by decide, by decide, by decide⟩

theorem witness_LatchReports :
    ({ bay with latches := 1 } : State).held .lineCheck = true ∧ bay.held .lineCheck = false ∧
    ({ bay with enables := 0 } : State).reports .lineCheck = false ∧
    bay.reports .lineCheck = true ∧ bay.line.mute = false ∧ bay.line.tx.length < 8 ∧
    bay.held .txOverflow = false ∧ Latch.timing ≠ .lineCheck ∧ Latch.timing ≠ .txOverflow := by decide

/-- A frame with a framing error is no cue; the other frames are cues of the four kinds the receiver ignores or mutes for. -/
theorem witness_ReceiverTests :
    (bay.resetHeld = false ∧ bay.line.inFlight = none ∧ bay.line.sentWhole = none) ∧
    (¬ ∃ kind dst src payload, IsCue ⟨true, [9]⟩ kind dst src payload) ∧
    IsCue ⟨false, cueBytes 0x09 15 5 []⟩ 0x09 15 5 [] ∧ (5 : Station) = bay.straps.station ∧
    IsCue ⟨false, cueBytes 0x09 15 15 []⟩ 0x09 15 15 [] ∧ (15 : Station) ≠ bay.straps.station ∧
    IsCue ⟨false, cueBytes 0x09 6 2 []⟩ 0x09 6 2 [] ∧ (2 : Station) ≠ bay.straps.station ∧
    IsCue ⟨false, cueBytes 0x3F 5 2 [1]⟩ 0x3F 5 2 [1] ∧ permittedLength 0x3F 1 = none ∧
    IsCue ⟨false, cueBytes 0x0B 5 2 [1, 1]⟩ 0x0B 5 2 [1, 1] ∧
    (Request.loadData (List.replicate 8 0)).wellFormed = true ∧
    (serving bay (List.replicate 3 ⟨2, 5, .undo⟩)).line.fifo.length < 4 ∧
    4 ≤ (serving bay (List.replicate 4 ⟨2, 5, .undo⟩)).line.fifo.length := by
  refine ⟨by decide, ?_, by decide +kernel, by decide, by decide +kernel, by decide,
    by decide +kernel, by decide, by decide +kernel, by decide, by decide +kernel, by decide,
    by decide, by decide⟩
  rintro ⟨_, _, _, _, h, _⟩
  exact absurd h (by decide)

theorem witness_FrameCarriesItsCue :
    bay.resetHeld = false ∧ bay.line.inFlight = none ∧
    bay.line.sentWhole ≠ some (frameOf 2 15 (.queued (.portWrite 9 [1, 44]))).bytes ∧
    (2 : Station) ≠ bay.straps.station ∧ (2 : Station) ≠ 15 ∧
    ((15 : Station) = bay.straps.station ∨ (15 : Station) = 15) ∧
    (∀ r, Arrival.queued (.portWrite 9 [1, 44]) = .queued r → r.wellFormed = true) := by
  refine ⟨rfl, rfl, by decide, by decide, by decide, by decide, ?_⟩
  intro r h
  cases h
  decide

theorem witness_PresentSetsRole :
    bay.resetHeld = false ∧ bay.roster.length = 15 ∧ (14 : Station) ≠ bay.straps.station ∧
    (14 : Station) ≠ 15 ∧ bay.line.tx.any TxEntry.isPresent = false ∧
    fullQueue.line.tx.any TxEntry.isPresent = true ∧ (5 : Station) = bay.straps.station ∧
    bay.roster[1]? = some (some .transport) := by decide

/-- The first clock of the first active line, and the last of the last. -/
theorem witness_PixelPosition :
    bay.resetHeld = false ∧ (∀ c ∈ List.replicate 140 clock, IsPixelClock c) ∧
    (140 = 0 + 140 ∧ bay.straps.standard = .s525 ∧
      ({ bay with raster := { bay.raster with lineCount := 19 } } : State).raster.lineCount + 1 = 0 + 20) ∧
    (∀ c ∈ List.replicate 859 clock, IsPixelClock c) ∧
    (859 = 719 + 140 ∧
      ({ bay with raster := { bay.raster with lineCount := 261 } } : State).raster.lineCount + 1 =
        242 + 20) :=
  ⟨rfl, clocks_isPixelClock 140, by decide, clocks_isPixelClock 859, by decide⟩

theorem witness_OutputLatency :
    bay.resetHeld = false ∧ bay.video.delay.length = 96 ∧ (List.replicate 96 clock).length = 96 ∧
    (∀ c ∈ List.replicate 96 clock, IsPixelClock c) :=
  ⟨rfl, by decide, by simp, clocks_isPixelClock 96⟩

/-- The engine about to sample pixel `x` of field line `l`. -/
def atPixel (x l : Nat) : State :=
  { bay with
    raster := { bay.raster with lineCount := l + 20 }
    video := { bay.video with clocksIntoLine := x + 139 } }

theorem witness_PixelClockCountsSamples :
    (atPixel 712 240).resetHeld = false ∧ (atPixel 712 240).detector.bins.length = 16 ∧
    (after clock (atPixel 712 240)).activePixel = some (712, 240) ∧
    (atPixel 712 240).raster.locked = true ∧ (atPixel 712 240).raster.fieldOpen = true ∧
    (after clock (atPixel 0 0)).activePixel = some (0, 0) ∧
    (after clock (atPixel 1 0)).activePixel = some (1, 0) ∧
    (after clock (atPixel 0 241)).activePixel = some (0, 241) ∧
    (after clock (atPixel 0 243)).activePixel = none := by decide +kernel

theorem witness_LaneStages :
    identityCurve.length = 257 ∧ (∀ v ∈ identityCurve, v ≤ 4096) ∧
    (∀ i ≤ 256, identityCurve.getD i 0 = 16 * i) ∧ (4095 : Nat) ≤ 4095 ∧ 4080 % 16 = 0 ∧
    secondaryStage [⟨RGB.all 0, RGB.all 4095, RGB.all 5, none⟩] 719 575 (RGB.all 1) = RGB.all 6 ∧
    secondaryStage [⟨RGB.all 2, RGB.all 4095, RGB.all 5, none⟩] 719 575 (RGB.all 1) = RGB.all 1 := by
  decide +kernel

theorem witness_BlendStage :
    bay.snapshot.incoming = none ∧
    (after (.fieldSync false) dissolveBay).snapshot.incoming = some Grade.flat ∧
    (256 : Nat) ≤ 256 ∧ 256 * 1 / (1 + 1) = 128 ∧ 256 * 1 / (63 + 1) = 4 ∧ 256 * 63 / (63 + 1) = 252 := by
  decide +kernel

theorem witness_OutputCoding :
    outputCode 0 = 64 ∧ outputCode 4095 = 940 ∧ (64 : Nat) ≤ 940 ∧ outputCode 2 = 64 ∧
    outputCode 3 = 65 := by decide

theorem witness_FlatPicture : (719 : Nat) < 720 ∧ (575 : Nat) < 576 := by decide

/-- Each case of the judgement: not open; good while locked; the fourth good one; bad while locked; bad while unlocked. -/
theorem witness_FieldJudging :
    starting.resetHeld = false ∧ starting.raster.fieldOpen = false ∧ starting.raster.locked = false ∧
    (after (.fieldSync true) starting).raster.locked = false ∧
    GoodCount bay.straps.standard bay.raster.lineCount ∧ bay.raster.locked = true ∧
    ({ starting with raster := ⟨false, 263, true, 3, 0, 0⟩ } : State).raster.goodRun = 3 ∧
    ¬ GoodCount dissolving.straps.standard dissolving.raster.lineCount ∧
    dissolving.raster.badRun ≠ 0 ∧
    (after .missingSyncExpiry starting).raster.locked = starting.raster.locked ∧
    (after .missingSyncExpiry cutBay).raster.locked = cutBay.raster.locked := by decide +kernel

theorem witness_LossOfLock :
    ¬ IsReset .missingSyncExpiry ∧
    exec .missingSyncExpiry dissolving = .next (after .missingSyncExpiry dissolving) ∧
    dissolving.raster.locked = true ∧ (after .missingSyncExpiry dissolving).raster.locked = false ∧
    ¬ IsReset (.fieldSync true) ∧
    exec (.fieldSync true) dissolving = .next (after (.fieldSync true) dissolving) ∧
    (after (.fieldSync true) dissolving).raster.locked = false :=
  ⟨not_isReset _ rfl, exec_after _ _, rfl, by decide, not_isReset _ rfl, exec_after _ _, by decide⟩

theorem witness_EngineStateTable :
    starting.resetHeld = false ∧ starting.rollCall ≠ none ∧ bay.rollCall = none ∧
    bay.raster.locked = true ∧ standby.follower.reel = none ∧ bay.follower.reel ≠ none := by decide

/-- The engine with a current frame and no schedule, as the cases of R109 to R111 need it. -/
def showing (c : Option CurrentFrame) (coast : Nat) : State :=
  { bay with follower := ⟨some ⟨4001, 9000⟩, 65535, [], c, coast, false, false⟩ }

theorem witness_CurrentFrameAtBoundary :
    (Boundary false dissolveBay (after (.fieldSync false) dissolveBay) ∧ FollowerSound dissolveBay ∧
      dissolveBay.follower.schedule = [⟨1500, .fwd, .play, 3, 3000⟩] ∧
      dissolveBay.follower.fieldCount = 2999) ∧
    (∀ s ∈ [showing none 0, showing (some ⟨7, .fwd, .still, 1, 1⟩) 0,
        showing (some ⟨7, .fwd, .play, 2, 1⟩) 0, showing (some ⟨8998, .fwd, .play, 2, 2⟩) 7,
        showing (some ⟨0, .rev, .play, 2, 2⟩) 0, showing (some ⟨7, .fwd, .play, 2, 2⟩) 8,
        showing (some ⟨8999, .fwd, .play, 3, 3⟩) 0],
      (after (.fieldSync false) s).raster.locked = true ∧ s.resetHeld = false ∧ FollowerSound s ∧
      s.follower.reel = some ⟨4001, 9000⟩ ∧ s.follower.schedule = []) :=
  ⟨⟨⟨rfl, exec_after _ _, by decide +kernel⟩, by decide +kernel, rfl, rfl⟩, by decide +kernel⟩

theorem witness_ControllerWithoutLookup :
    (after (.hold 2) dissolving).engineState = .hold ∧
    (showing none 0).engineState ≠ .hold ∧ (showing none 0).follower.current = none := by decide

/-- The four cases of a lookup: a dissolve, a cut, a cut after a hold, and nothing to fire. -/
theorem witness_ControllerLookup :
    (∃ f, dissolveBay.followBoundary.engineState ≠ .hold ∧
      dissolveBay.followBoundary.follower.current = some f ∧ f.dir = .fwd ∧ f.speed = .play ∧
      (sceneOf dissolveBay.followBoundary.scenes f.frame).start = f.frame ∧
      (sceneOf dissolveBay.followBoundary.scenes f.frame).trans = .dissolve ∧
      dissolveBay.followBoundary.controller.holdExit = false ∧
      (sceneOf dissolveBay.followBoundary.scenes f.frame).start ≠
        dissolveBay.followBoundary.controller.sceneStart ∧
      dissolveBay.followBoundary.reportsSceneEntered = true) ∧
    (sceneOf bay.scenes 999).start = bay.controller.sceneStart ∧ bay.controller.incoming = none ∧
    (sceneOf bay.scenes 999).slot = bay.controller.current.slot ∧
    ({ dissolveBay with enables := 0 } : State).reportsSceneEntered = false := by
  refine ⟨⟨⟨1500, .fwd, .play, 3, 1⟩, ?_⟩, ?_⟩ <;> decide

/-- Lock is held after the boundary at which the detector fires, whichever order log 7's free choice takes. -/
theorem cutBay_boundary :
    Boundary false cutBay (after (.fieldSync false) cutBay) := by
  refine ⟨rfl, exec_after _ _, ?_⟩
  have h : ∀ t : State, (after (.fieldSync false) t) = if t.resetHeld then t else t.fieldSync false := by
    intro t; rfl
  rw [h]
  simp [State.fieldSync, State.fieldBoundary, State.judgeField, State.goodField, cutBay, bay,
    Config.goodCount, straps5, State.powerOn, State.cold]

/-- The detector fires whatever raster and video the boundary leaves, once lock is held. -/
theorem cutBay_fires (r : Raster) (v : Video) (h : r.locked = true) :
    State.firing { cutBay with raster := r, video := v } = some ⟨951, 4992⟩ := by
  obtain ⟨locked, _, _, _, _, _⟩ := r
  obtain rfl : locked = true := h
  exact test_measure

/-- A boundary with no firing and one with a firing, neither with an install pending. -/
theorem witness_BoundaryWork :
    Boundary false dissolveBay (after (.fieldSync false) dissolveBay) ∧
    State.firing { dissolveBay with
      raster := (after (.fieldSync false) dissolveBay).raster
      video := (after (.fieldSync false) dissolveBay).video } = none ∧
    dissolveBay.loader.state ≠ .installPending ∧
    Boundary false cutBay (after (.fieldSync false) cutBay) ∧
    State.firing { cutBay with
      raster := (after (.fieldSync false) cutBay).raster
      video := (after (.fieldSync false) cutBay).video } = some ⟨951, 4992⟩ ∧
    cutBay.loader.state ≠ .installPending :=
  ⟨⟨rfl, exec_after _ _, by decide +kernel⟩, by decide +kernel, by decide,
    cutBay_boundary, cutBay_fires _ _ cutBay_boundary.2.2, by decide⟩

theorem witness_DetectorAtBoundary :
    Boundary false cutBay (after (.fieldSync false) cutBay) ∧
    cutBay.detector.capture = some ⟨4992, .fwd, .play, 4800⟩ ∧
    cutBay.detector.bins.sum = 5490 ∧ cutBay.profile.threshold ≤ 951 ∧
    (cutBay.profile.minScene : Int) ≤ (4992 : Int) - 4800 ∧ cutBay.straps.detect = true ∧
    (¬ ∃ r ∈ cutBay.scenes, r.start = 4992) ∧ cutBay.scenes.length < 256 ∧
    cutBay.firing = some ⟨951, 4992⟩ ∧ cutBay.reportsCut = true ∧ cutBay.line.mute = false ∧ cutBay.line.tx.length ≤ 3 ∧
    Boundary false bay (after (.fieldSync false) bay) ∧ bay.detector.capture = none :=
  ⟨cutBay_boundary, rfl, by decide, by decide, by decide, rfl, by decide, by decide,
    test_measure, by decide, rfl, by decide, ⟨rfl, exec_after _ _, by decide +kernel⟩, rfl⟩

theorem witness_ReelEffects :
    bay.resetHeld = false ∧ bay.authority ≠ some (2 : Station).toNat ∧
    bay.authority = some (1 : Station).toNat ∧
    bay.follower.reel = some ⟨(4001 : U16).toNat, (9000 : U16).toNat⟩ ∧
    bay.follower.reel ≠ some ⟨(4001 : U16).toNat, (1 : U16).toNat⟩ := by decide

theorem witness_FrameEffects :
    bay.resetHeld = false ∧ bay.authority = some (1 : Station).toNat ∧
    bay.authority ≠ some (2 : Station).toNat ∧ starting.engineState = .rollcall ∧
    (bay.engineState ≠ .rollcall ∧ bay.engineState ≠ .unsync) ∧
    (∀ q ∈ bay.follower.reel, q.length ≤ (9000 : U16).toNat) ∧
    (¬ ∀ q ∈ bay.follower.reel, q.length ≤ (8999 : U16).toNat) := by decide

theorem witness_HoldAndRelease :
    bay.resetHeld = false ∧ bay.role 2 = some .console ∧ bay.role 1 ≠ some .console := by decide

/-! ### Requests: a state for each branch -/

/-- What the statements about requests ask of a state: the request, from console 2, is the FIFO's head and will be handed to its owner; table, history and pool are sound. -/
abbrev Ready (r : Request) (s : State) : Prop :=
  Accepted ⟨2, 5, r⟩ (serving s [⟨2, 5, r⟩]) ∧ ScenesSound (serving s [⟨2, 5, r⟩]) ∧
  PoolSound (serving s [⟨2, 5, r⟩])

/-- `Ready` as a Boolean. -/
def ready (r : Request) (s : State) : Bool :=
  decide (Accepted ⟨2, 5, r⟩ (serving s [⟨2, 5, r⟩])) &&
  decide (ScenesSound (serving s [⟨2, 5, r⟩])) && decide (PoolSound (serving s [⟨2, 5, r⟩]))

theorem ready_iff (r : Request) (s : State) : ready r s = true ↔ Ready r s := by
  simp only [ready, Bool.and_eq_true, decide_eq_true_eq, and_assoc]

/-- Every request of a list finds the state ready. -/
theorem all_ready (s : State) (l : List Request) (h : l.all (fun r => ready r s) = true) :
    ∀ r ∈ l, Ready r s := fun r hr => (ready_iff r s).mp (List.all_eq_true.mp h r hr)

/-- In the order of Table 4-4: no reel, beyond it, a start taken, a slot that is free, a full table, and none of these. -/
theorem witness_SceneMark :
    Ready (.sceneMark 240 0xFF 1 4) standby ∧ standby.follower.reel = none ∧
    (∀ r ∈ [Request.sceneMark 9000 0xFF 1 4, .sceneMark 240 7 1 4, .sceneMark 240 0xFF 2 4,
      .sceneMark 8999 0 0 0], Ready r bay) ∧
    (∀ q ∈ bay.follower.reel, q.length ≤ (9000 : U16).toNat) ∧ bay.pool.slot 7 = none ∧
    (¬ ∃ r ∈ bay.scenes, r.start = 8999) ∧ bay.scenes.length ≠ 256 ∧
    Ready (.sceneMark 1500 0xFF 1 4) dissolveBay ∧ (∃ r ∈ dissolveBay.scenes, r.start = 1500) ∧
    Ready (.sceneMark 241 0xFF 1 63) fullTable ∧ fullTable.scenes.length = 256 :=
  ⟨(ready_iff _ _).mp (by decide +kernel), rfl, all_ready _ _ (by decide +kernel), by decide, rfl,
    by decide, by decide, (ready_iff _ _).mp (by decide +kernel), by decide,
    (ready_iff _ _).mp (by decide +kernel), by decide +kernel⟩

theorem witness_SceneClearAndPurge :
    (∀ r ∈ [Request.sceneClear 1, .scenePurge], Ready r standby) ∧
    (∀ r ∈ [Request.sceneClear 9000, .sceneClear 0, .sceneClear 1], Ready r bay) ∧
    (∀ r ∈ [Request.sceneClear 1500, .scenePurge], Ready r dissolveBay) ∧
    (∃ r ∈ dissolveBay.scenes, r.start = 1500) :=
  ⟨all_ready _ _ (by decide +kernel), all_ready _ _ (by decide +kernel),
    all_ready _ _ (by decide +kernel), by decide⟩

theorem witness_SceneSet :
    Ready (.sceneSet 1 0 0 1 1) standby ∧
    (∀ r ∈ [Request.sceneSet 9000 0 0 1 1, .sceneSet 1 0 0 1 1, .sceneSet 0 0 0 1 2], Ready r bay) ∧
    Ready (.sceneSet 1500 0xFF 1 63 1) dissolveBay :=
  ⟨(ready_iff _ _).mp (by decide +kernel), all_ready _ _ (by decide +kernel),
    (ready_iff _ _).mp (by decide +kernel)⟩

theorem witness_QueriesChangeNothing :
    (∀ r ∈ [Request.sceneQuery 0 9000, .sceneQuery 0 8999, .sceneQuery 1 0, .sceneQuery 1 2,
      .sceneQuery 1 3, .sceneQuery 2 0], Ready r dissolveBay) ∧
    dissolveBay.scenes.length = 3 ∧
    (∀ r ∈ [Request.gradeQuery 2 0 0, .gradeQuery 1 0 0, .gradeQuery 1 1 0, .gradeQuery 1 1 1,
      .gradeQuery 1 2 0], Ready r graded1) ∧
    (graded1.pool.slot 1).isSome = true ∧ graded1.pool.slot 2 = none ∧
    GradesSound (serving graded1 [⟨2, 5, .gradeQuery 1 1 0⟩]) ∧
    (∀ r ∈ [Request.portRead 0, .portRead 1, .portRead 4, .portRead 12, .portRead 15, .portRead 16],
      Ready r cutBay) ∧
    RosterSound (serving cutBay [⟨2, 5, .portRead 15⟩]) ∧
    DetectorSound (serving cutBay [⟨2, 5, .portRead 12⟩]) :=
  ⟨all_ready _ _ (by decide +kernel), rfl, all_ready _ _ (by decide +kernel), rfl, rfl,
    ⟨by decide +kernel, by decide +kernel, by decide +kernel, by decide +kernel, by decide +kernel,
      by decide +kernel⟩,
    all_ready _ _ (by decide +kernel), by decide +kernel, by decide +kernel⟩

theorem witness_UndoReverts :
    Ready .undo standby ∧ Ready .undo bay ∧ bay.history.entries = [] ∧
    (∀ c ∈ [Instr.sceneMark 2 5 240 0xFF 1 4, .sceneClear 2 5 1500, .sceneSet 2 5 1500 0 0 1 0,
        .gradePrimary 2 5 3 widePrimary, .gradeVector 2 5 3 0 wideVector],
      Ready .undo (after c dissolveBay) ∧ (after c dissolveBay).history.entries ≠ []) := by
  refine ⟨(ready_iff _ _).mp (by decide +kernel), (ready_iff _ _).mp (by decide +kernel), rfl, ?_⟩
  intro c hc
  refine ⟨(ready_iff _ _).mp ?_, ?_⟩ <;> revert c hc <;> decide +kernel

/-- SCENE CLEAR and an UNDO wait in the FIFO. -/
def twoCues : State := serving dissolveBay [⟨2, 5, .sceneClear 1500⟩, ⟨3, 5, .undo⟩]

theorem witness_UndoRestores :
    serviceCue (.sceneClear 2 5 1500) = some ⟨2, 5, .sceneClear 1500⟩ ∧ ScenesSound twoCues ∧
    twoCues.resetHeld = false ∧
    twoCues.line.fifo = ⟨2, 5, .sceneClear 1500⟩ :: ⟨3, 5, .undo⟩ :: [] ∧
    twoCues.line.lineResets = [] ∧ twoCues.engineState ≠ .rollcall ∧
    twoCues.role 3 = some .console ∧ twoCues.follower.reel ≠ none ∧
    exec (.sceneClear 2 5 1500) twoCues = .next (after (.sceneClear 2 5 1500) twoCues) ∧
    (after (.sceneClear 2 5 1500) twoCues).history.entries = twoCues.history.entries ++
      [.sceneRemoved ⟨1500, 4, .dissolve, 4, .console, true⟩] ∧
    exec (.undo 3 5) (after (.sceneClear 2 5 1500) twoCues) =
      .next (after (.undo 3 5) (after (.sceneClear 2 5 1500) twoCues)) :=
  ⟨rfl, by decide +kernel, rfl, rfl, rfl, by decide, by decide, by decide, exec_after _ _,
    by decide +kernel, exec_after _ _⟩

/-- A peer's CUT at the head of the FIFO: refused, on a full table, and taken. -/
theorem witness_PeerCutEffects :
    (∀ s ∈ [starting, standby, { bay with straps := { straps5 with peerCuts := false } }, fullTable, bay],
      AtHead ⟨8, 15, .cut 4001 4992 944⟩ (serving s [⟨8, 15, .cut 4001 4992 944⟩]) ∧
      ScenesSound (serving s [⟨8, 15, .cut 4001 4992 944⟩]) ∧
      PoolSound (serving s [⟨8, 15, .cut 4001 4992 944⟩])) ∧
    starting.engineState = .rollcall ∧ (∀ q ∈ standby.follower.reel, q.id ≠ 4001) ∧
    (¬ ∃ r ∈ fullTable.scenes, r.start = 4992) ∧ fullTable.scenes.length = 256 ∧
    bay.role 8 = some .engine ∧ bay.straps.peerCuts = true := by decide +kernel

theorem witness_GradeNewAndDrop :
    Ready .gradeNew fullPool ∧ Ready .gradeNew dissolveBay ∧
    (∀ n < 128, fullPool.pool.slot n ≠ none) ∧ dissolveBay.pool.slot 1 = none ∧
    (∀ m < 1, dissolveBay.pool.slot m ≠ none) ∧
    (∀ r ∈ [Request.gradeDrop 128, .gradeDrop 0, .gradeDrop 127, .gradeDrop 3], Ready r dissolveBay) ∧
    0 < holders dissolveBay 3 ∧
    Ready (.gradeDrop 127) fullPool ∧ holders fullPool 127 = 0 ∧ fullPool.pool.slot 127 ≠ none :=
  ⟨(ready_iff _ _).mp (by decide +kernel), (ready_iff _ _).mp (by decide +kernel), by decide +kernel,
    rfl, by decide, all_ready _ _ (by decide +kernel), by decide,
    (ready_iff _ _).mp (by decide +kernel), by decide, by decide +kernel⟩

theorem witness_GradePrimary :
    (∀ r ∈ [Request.gradePrimary 128 widePrimary, .gradePrimary 0 widePrimary,
      .gradePrimary 127 widePrimary, .gradePrimary 1 ⟨⟨0, 1024, 16⟩, ⟨0, 1024, 0⟩, ⟨0, 1024, 0⟩⟩,
      .gradePrimary 1 widePrimary], Ready r graded1) ∧
    (graded1.pool.slot 1).isSome = true ∧ graded1.pool.slot 127 = none :=
  ⟨all_ready _ _ (by decide +kernel), rfl, by decide +kernel⟩

theorem witness_GradeVectors :
    (∀ n ∈ ([128, 0, 127, 1] : List Byte), ∀ k ∈ ([0, 1, 2] : List Byte),
      Ready (.gradeVector n k wideVector) graded1 ∧ Ready (.gradeVectorDelete n k) graded1) ∧
    (gradeOf graded1 1).map (·.vectors.length) = some 1 ∧
    Ready (.gradeVector 1 6 wideVector) sixVectors ∧
    (gradeOf sixVectors 1).map (·.vectors.length) = some 6 := by
  refine ⟨?_, rfl, (ready_iff _ _).mp (by decide +kernel), rfl⟩
  intro n hn k hk
  refine ⟨(ready_iff _ _).mp ?_, (ready_iff _ _).mp ?_⟩ <;> revert n hn k hk <;> decide +kernel

theorem witness_LoadStart :
    Accepted ⟨2, 5, .loadStart 0 3 260 0⟩ (serving loading [⟨2, 5, .loadStart 0 3 260 0⟩]) ∧
    loading.loader.state ≠ .idle ∧
    (∀ c ∈ [Request.loadStart 3 0 0 0, .loadStart 0 16 0 0, .loadStart 1 0 0 3, .loadStart 0 0 0 0,
        .loadStart 0 15 65535 2, .loadStart 1 0 64 1, .loadStart 2 255 63 0],
      Accepted ⟨2, 5, c⟩ (serving bay [⟨2, 5, c⟩])) ∧ bay.loader.state = .idle := by decide

theorem witness_LoadData :
    (∀ s ∈ [bay, loading, installing],
      Accepted ⟨2, 5, .loadData [50, 64, 5000]⟩ (serving s [⟨2, 5, .loadData [50, 64, 5000]⟩]) ∧
      StoresSound (serving s [⟨2, 5, .loadData [50, 64, 5000]⟩])) ∧
    bay.loader.state = .idle ∧ installing.loader.state = .installPending ∧
    loading.loader.state = .filling ∧ loading.loader.target = some (.curve 3) := by decide +kernel

theorem witness_LoadInstallAndCancel :
    (∀ s ∈ [bay, loading, installing],
      Accepted ⟨2, 5, .loadInstall⟩ (serving s [⟨2, 5, .loadInstall⟩]) ∧
      Accepted ⟨2, 15, .loadInstall⟩ (serving s [⟨2, 15, .loadInstall⟩]) ∧
      Accepted ⟨2, 5, .loadCancel⟩ (serving s [⟨2, 5, .loadCancel⟩]) ∧
      StoresSound (serving s [⟨2, 5, .loadCancel⟩])) ∧
    bay.loader.state = .idle ∧ installing.loader.state = .installPending ∧
    loading.loader.state = .filling ∧ installing.loader.requester = some 2 ∧
    installing.loader.target = some (.curve 3) := by decide +kernel

theorem witness_PortWrites :
    (∀ r ∈ [Request.portWrite 4 (bytesOf16 0xFFFF), .portWrite 5 [1], .portWrite 5 [2],
        .portWrite 6 (bytesOf16 300 ++ bytesOf16 0x8000 ++ bytesOf16 512),
        .portWrite 7 (bytesOf16 0 ++ bytesOf16 256 ++ bytesOf16 0),
        .portWrite 8 (bytesOf16 0 ++ bytesOf16 0 ++ bytesOf16 511),
        .portWrite 9 (bytesOf16 1025), .portWrite 10 (bytesOf16 0), .portWrite 16 [0],
        .portWrite 3 [0], .portWrite 11 [0], .portWrite 15 [0], .portWrite 9 [0], .portWrite 5 [0, 0],
        .portWrite 8 [0]],
      Accepted ⟨2, 5, r⟩ (serving bay [⟨2, 5, r⟩])) := by decide

theorem witness_ClearFaults :
    Accepted ⟨2, 5, .clearFaults 0xFF⟩
      (serving { bay with latches := 0xFF } [⟨2, 5, .clearFaults 0xFF⟩]) := by decide

end Sys2Proof.Tests
end

