-- ==== Sys2Proof/Proofs/Blend.lean ====
section
/-! The blend stage (R19, R20): what it passes in each controller state, and why the blend lies between its two inputs. -/

namespace Sys2Proof.Machine

/-- With the controller IDLE the blend stage passes CURRENT's lane (R19). -/
theorem graded_of_idle {sn : Snapshot} (h : sn.incoming = none) (x y : Nat) (m : RGB Int) :
    graded sn x y m = lane sn.curves sn.current x y m := by
  simp only [graded, h]

/-- With the controller RUNNING the blend stage mixes CURRENT's and INCOMING's lanes (R20). -/
theorem graded_of_running {sn : Snapshot} {g : Grade} (h : sn.incoming = some g) (x y : Nat)
    (m : RGB Int) :
    graded sn x y m =
      (lane sn.curves sn.current x y m).zip (blend sn.weight) (lane sn.curves g x y m) := by
  simp only [graded, h]

/-- Two equal inputs are passed whatever the weight: the rounding 128 / 256 adds nothing. -/
theorem blend_self (w : Nat) (v : Int) : blend w v v = v := by
  have hmix : v * (256 - w) + v * w = 256 * v := by ring
  unfold blend
  omega

/-- Up to weight 256 neither factor of the blend is negative, so it rises with each input. -/
theorem blend_mono {w : Nat} (hw : w ≤ 256) {old old' new new' : Int} (hold : old ≤ old')
    (hnew : new ≤ new') : blend w old new ≤ blend w old' new' := by
  have hfactor : (0 : Int) ≤ 256 - w := by omega
  have hmix : old * (256 - w) + new * w ≤ old' * (256 - w) + new' * w := by gcongr
  unfold blend
  omega

/-- The blend is at least the lesser input: it rises from the blend of that input with itself. -/
theorem min_le_blend {w : Nat} (hw : w ≤ 256) (old new : Int) :
    min old new ≤ blend w old new :=
  calc min old new = blend w (min old new) (min old new) := (blend_self w _).symm
    _ ≤ blend w old new := blend_mono hw (min_le_left old new) (min_le_right old new)

/-- The blend is at most the greater input: it rises to the blend of that input with itself. -/
theorem blend_le_max {w : Nat} (hw : w ≤ 256) (old new : Int) :
    blend w old new ≤ max old new :=
  calc blend w old new ≤ blend w (max old new) (max old new) :=
        blend_mono hw (le_max_left old new) (le_max_right old new)
    _ = max old new := blend_self w _

/-- The weight of a dissolve of at most 63 fields is at least 4 in each of its fields (R20). -/
theorem four_le_dissolveWeight {k n : Nat} (hk : 1 ≤ k) (hn : n ≤ 63) :
    4 ≤ 256 * k / (n + 1) := by
  rw [Nat.le_div_iff_mul_le n.succ_pos]
  omega

/-- The weight of a dissolve of at most 63 fields is at most 252 in each of its fields (R20). -/
theorem dissolveWeight_le_252 {k n : Nat} (hkn : k ≤ n) (hn : n ≤ 63) :
    256 * k / (n + 1) ≤ 252 := by
  apply Nat.div_le_of_le_mul
  omega

/-- Settles O32: the stage's two equations, and the blend's bounds from its monotonicity. -/
theorem blendStage : Obligations.BlendStage := by
  unfold Obligations.BlendStage
  refine ⟨?idle, ?running, ?between, ?weight⟩
  case idle =>
    intro sn x y w m hidle
    exact graded_of_idle (sn := { sn with weight := w }) hidle x y m
  case running =>
    intro sn g x y m hrunning
    exact ⟨_, _, rfl, rfl, graded_of_running hrunning x y m⟩
  case between =>
    intro w old new hw
    exact ⟨min_le_blend hw old new, blend_le_max hw old new⟩
  case weight =>
    intro k n hk hkn hn
    exact ⟨four_le_dissolveWeight hk hn, dissolveWeight_le_252 hkn hn⟩

end Sys2Proof.Machine
end

