-- ==== Sys2Proof/Proofs/LoaderInstall.lean ====
section
/-! LOAD INSTALL and LOAD CANCEL (R37, R38, R41): what the loader answers in each of its states, and what the cancel of a pending install queues. -/

namespace Sys2Proof.Machine

open Safety

/-- The service of an accepted request: the owner acts on the state with the FIFO's head gone, its answer is queued, and the LINE RESETs that waited are taken (R172 to R174). -/
theorem serveRequest_of_accepted {c : Cue} {s : State} (h : Accepted c s)
    (owner : State → State × Answer) :
    serveRequest c owner s =
      .next ((owner (served s)).1.reply c (owner (served s)).2).takeWaiting := by
  obtain ⟨⟨hrunning, hhead⟩, hstate, hrole⟩ := h
  have howner : handle c owner (served s) = (owner (served s)).1.reply c (owner (served s)).2 :=
    handle_owner (served s) c owner hstate hrole
  calc serveRequest c owner s
      = .next (serve c (handle c owner) s) := whenRunning_running s _ hrunning
    _ = .next (handle c owner (served s)).takeWaiting := by rw [serve_head s c _ hhead, served]
    _ = _ := by rw [howner]

section
variable {s : State}

/-- LOAD INSTALL is refused while the loader is IDLE (R38). -/
theorem loadInstall_of_idle (src dst : Station) (h : s.loader.state = .idle) :
    loadInstall src dst s = (s, refuse .wrongState) := by
  simp only [loadInstall, h]

/-- LOAD INSTALL is refused while an install is pending (R38). -/
theorem loadInstall_of_installPending (src dst : Station) (h : s.loader.state = .installPending) :
    loadInstall src dst s = (s, refuse .busy) := by
  simp only [loadInstall, h]

/-- While FILLING, LOAD INSTALL makes the install pending and answers nothing yet (R37). -/
theorem loadInstall_of_filling (src dst : Station) (h : s.loader.state = .filling) :
    loadInstall src dst s =
      ({ s with loader := { s.loader with
          state := .installPending, requester := if dst = 15 then none else some src } }, none) := by
  simp only [loadInstall, h]

/-- The CANCELLED reply leaves the loader as it is. -/
@[simp] theorem State.replyCancelled_loader : s.replyCancelled.loader = s.loader := by
  unfold State.replyCancelled
  split
  · simp
  · rfl

/-- No CANCELLED is due unless an install is pending for a requester (R41). -/
theorem State.replyCancelled_of_none
    (h : s.loader.state ≠ .installPending ∨ s.loader.requester = none) :
    s.replyCancelled = s := by
  unfold State.replyCancelled
  split
  next target a hstate htarget hrequester => simp [hstate, hrequester] at h
  next => rfl

/-- The requester of a pending install is answered CANCELLED with the target (R41). -/
theorem State.replyCancelled_of_pending {target : LoadTarget} {a : Station}
    (hstate : s.loader.state = .installPending) (htarget : s.loader.target = some target)
    (hrequester : s.loader.requester = some a) :
    s.replyCancelled = s.offer ⟨a, .reply 0x22 .cancelled target.bytes⟩ := by
  simp only [State.replyCancelled, hstate, htarget, hrequester]

/-- But for the loader, LOAD CANCEL changes what the CANCELLED reply changes (R41). -/
theorem loadCancel_frame :
    { (loadCancel s).1 with loader := s.loader } = s.replyCancelled := by
  rw [← State.replyCancelled_loader (s := s)]
  rfl

end

/-- An accepted LOAD INSTALL ends with what the loader answers once the cue has left the FIFO (R37, R38). -/
theorem exec_loadInstall {src dst : Station} {s : State}
    (h : Accepted ⟨src, dst, .loadInstall⟩ s) :
    exec (.loadInstall src dst) s =
      .next ((loadInstall src dst (served s)).1.reply ⟨src, dst, .loadInstall⟩
        (loadInstall src dst (served s)).2).takeWaiting :=
  serveRequest_of_accepted h (loadInstall src dst)

/-- LOAD CANCEL is answered DONE with the loader state it found (R41). -/
theorem exec_loadCancel {src dst : Station} {s : State}
    (h : Accepted ⟨src, dst, .loadCancel⟩ s) :
    exec (.loadCancel src dst) s =
      .next (answered ⟨src, dst, .loadCancel⟩ .done [s.loader.state.code]
        (loadCancel (served s)).1) :=
  serveRequest_of_accepted h loadCancel

/-- Settles O58: LOAD INSTALL state by state, and LOAD CANCEL by what its CANCELLED reply changes. -/
theorem loadInstallAndCancel : Obligations.LoadInstallAndCancel := by
  unfold Obligations.LoadInstallAndCancel
  refine ⟨?install, ?cancel⟩
  case install =>
    intro src dst s c i haccepted
    have hexec := exec_loadInstall haccepted
    refine ⟨fun hidle => ?_, fun hpending => ?_, fun hfilling => ?_⟩
    · rwa [loadInstall_of_idle src dst (s := served s) hidle] at hexec
    · rwa [loadInstall_of_installPending src dst (s := served s) hpending] at hexec
    · rwa [loadInstall_of_filling src dst (s := served s) hfilling] at hexec
  case cancel =>
    intro src dst s c i haccepted _
    refine ⟨(loadCancel (served s)).1, s.loader.state.code, fun h => ?_, fun h => ?_, fun h => ?_,
      exec_loadCancel haccepted, rfl, rfl, rfl, fun hnone => ?_,
      fun target a hpending htarget hrequester => ?_⟩
    · exact congrArg LoaderState.code h
    · exact congrArg LoaderState.code h
    · exact congrArg LoaderState.code h
    · exact loadCancel_frame.trans (State.replyCancelled_of_none (s := served s) hnone)
    · refine ⟨target.bytes, ?_, ?_, ?_, loadCancel_frame.trans
        (State.replyCancelled_of_pending (s := served s) hpending htarget hrequester)⟩
      · rintro n rfl; rfl
      · rintro rfl; rfl
      · rintro rfl; rfl

end Sys2Proof.Machine
end

/-! What the grade requests rest on: the slots of the pool and their reference counts (R46 to R49), and the push of a history entry (R86, R87). -/

namespace Sys2Proof.Machine

open Safety

/-! ## Slots of the pool -/

section
variable {p : Pool} {n m : Nat}

/-- An allocated slot is one of the pool's places. -/
theorem Pool.lt_length_of_slot (h : p.slot n ≠ none) : n < p.slots.length := by
  by_contra hge
  exact h (List.getD_eq_default _ _ (Nat.le_of_not_lt hge))

/-- A place of the pool holds what was put there; the others are left as they are. -/
theorem Pool.slot_set (o : Option Slot) (hn : n < p.slots.length) :
    Pool.slot ⟨p.slots.set n o⟩ m = if m = n then o else p.slot m := by
  by_cases h : m = n
  · subst h
    simp [Pool.slot, List.getD, hn]
  · simp [Pool.slot, List.getD, h, Ne.symm h]

/-- Writing a slot replaces its grade and leaves its count and every other slot (R58). -/
theorem Pool.slot_write (g : Grade) :
    (p.write n g).slot m =
      if m = n then (p.slot m).map (fun r => { r with grade := g }) else p.slot m := by
  unfold Pool.write
  split
  next r hslot =>
    rw [Pool.slot_set _ (Pool.lt_length_of_slot (by simp [hslot]))]
    split
    next h => simp [h, hslot]
    next => rfl
  next hfree =>
    split
    next h => simp [h, hfree]
    next => rfl

/-- The search of R48 ends at the lowest free slot. -/
theorem Pool.firstFree_of_lowest (hn : n < p.slots.length) (hfree : p.slot n = none)
    (hlower : ∀ m < n, p.slot m ≠ none) : p.firstFree = n := by
  have hfind : p.slots.findIdx? (·.isNone) = some n := by
    rw [List.findIdx?_eq_some_iff_getElem]
    refine ⟨hn, ?_, fun m hm => ?_⟩
    · simpa [Pool.slot, hn] using hfree
    · simpa [Pool.slot, hm.trans hn, Option.isSome_iff_ne_none] using hlower m hm
  rw [Pool.firstFree, hfind, Option.getD_some]

/-- With no slot free the search of R48 yields 128. -/
theorem Pool.firstFree_of_full (hfull : ∀ m < p.slots.length, p.slot m ≠ none) :
    p.firstFree = 128 := by
  have hfind : p.slots.findIdx? (·.isNone) = none := by
    rw [List.findIdx?_eq_none_iff]
    intro o ho
    obtain ⟨m, hm, rfl⟩ := List.getElem_of_mem ho
    simpa [Pool.slot, hm, Option.isSome_iff_ne_none] using hfull m hm
  rw [Pool.firstFree, hfind, Option.getD_none, Config.poolSlots]

/-! ## Reference counts -/

/-- The reference count of a slot as law L3 reads it: 0 for a free one (R49). -/
def Pool.refs (p : Pool) (n : Nat) : Nat :=
  match p.slot n with
  | some r => r.refs
  | none => 0

/-- The count of an allocated slot is the one it keeps. -/
theorem Pool.refs_of_slot {r : Slot} (h : p.slot n = some r) : p.refs n = r.refs := by
  simp only [Pool.refs, h]

/-- A free slot counts 0. -/
theorem Pool.refs_of_free (h : p.slot n = none) : p.refs n = 0 := by
  simp only [Pool.refs, h]

/-- A count that is changed: that of an allocated slot other than 0 (R46, R49). -/
theorem Pool.refs_recount (f : Nat → Nat) :
    (p.recount f n).refs m =
      if m = n ∧ n ≠ 0 ∧ p.slot m ≠ none then f (p.refs m) else p.refs m := by
  unfold Pool.refs
  rw [Pool.slot_recount]
  cases p.slot m with
  | none => simp
  | some r => by_cases h : m = n ∧ n ≠ 0 <;> simp [h]

/-- Writing a grade leaves every count (R58). -/
theorem Pool.refs_write (g : Grade) : (p.write n g).refs m = p.refs m := by
  unfold Pool.refs
  rw [Pool.slot_write]
  cases p.slot m with
  | none => simp
  | some r => by_cases h : m = n <;> simp [h]

/-- An entry's reference is released with it (R86). -/
theorem Pool.refs_releaseEntry (e : Entry) (h0 : n ≠ 0) :
    (p.releaseEntry e).refs n = p.refs n - if e.slot? = some n then 1 else 0 := by
  unfold Pool.releaseEntry
  split
  next m hm =>
    rw [Pool.release, Pool.refs_recount, hm]
    by_cases hfree : p.slot n = none
    · simp [hfree, Pool.refs_of_free hfree]
    · by_cases hmn : n = m
      · subst hmn
        simp [hfree, h0]
      · simp [hmn, Ne.symm hmn]
  next hm => simp [hm]

/-- An entry that names an allocated slot claims its reference (R86). -/
theorem Pool.refs_claimEntry {e : Entry} (halloc : ∀ m ∈ e.slot?, p.slot m ≠ none)
    (h0 : n ≠ 0) :
    (p.claimEntry e).refs n = p.refs n + if e.slot? = some n then 1 else 0 := by
  unfold Pool.claimEntry
  split
  next m hm =>
    rw [Pool.claim, Pool.refs_recount, hm]
    by_cases hmn : n = m
    · subst hmn
      simp [h0, halloc n hm]
    · simp [hmn, Ne.symm hmn]
  next hm => simp [hm]

/-- `q` is `p` with nothing but counts of slots 1..127 changed: no slot is allocated, freed or graded anew. -/
structure Pool.Recounted (p q : Pool) : Prop where
  length : q.slots.length = p.slots.length
  zero : q.slot 0 = p.slot 0
  grade : ∀ m, (q.slot m).map (·.grade) = (p.slot m).map (·.grade)

/-- No change is a change of counts alone. -/
theorem Pool.Recounted.refl (p : Pool) : p.Recounted p := ⟨rfl, rfl, fun _ => rfl⟩

/-- Changes of counts alone add up. -/
theorem Pool.Recounted.trans {q r : Pool} (hpq : p.Recounted q) (hqr : q.Recounted r) :
    p.Recounted r :=
  ⟨hqr.length.trans hpq.length, hqr.zero.trans hpq.zero,
    fun m => (hqr.grade m).trans (hpq.grade m)⟩

/-- Counting frees no slot and allocates none. -/
theorem Pool.Recounted.slot_eq_none {q : Pool} (h : p.Recounted q) :
    q.slot m = none ↔ p.slot m = none := by
  rw [← Option.map_eq_none_iff (f := (·.grade)), h.grade m, Option.map_eq_none_iff]

/-- A claim or a release only counts (R46, R49). -/
theorem Pool.recounted_recount (f : Nat → Nat) : p.Recounted (p.recount f n) where
  length := Pool.recount_length f n p
  zero := by
    rw [Pool.slot_recount, if_neg]
    rintro ⟨rfl, h⟩
    exact h rfl
  grade m := by
    rw [Pool.slot_recount]
    split
    · rw [Option.map_map]; rfl
    · rfl

/-- Releasing an entry's reference only counts (R86). -/
theorem Pool.recounted_releaseEntry (e : Entry) : p.Recounted (p.releaseEntry e) := by
  unfold Pool.releaseEntry
  split
  · exact Pool.recounted_recount _
  · exact Pool.Recounted.refl p

/-- Claiming an entry's reference only counts (R86). -/
theorem Pool.recounted_claimEntry (e : Entry) : p.Recounted (p.claimEntry e) := by
  unfold Pool.claimEntry
  split
  · exact Pool.recounted_recount _
  · exact Pool.Recounted.refl p

end

/-! ## A sound pool -/

section
variable {s : State} {n : Nat}

/-- In a sound pool the count kept with a slot is the number of its holders (R49). -/
theorem refs_eq_holders (hs : PoolSound s) (hn : n < 128) (h0 : n ≠ 0) :
    s.pool.refs n = holders s n := by
  obtain ⟨_, _, hrefs, _⟩ := hs
  exact hrefs n hn h0

/-- Law L3 from its counts: that no holder names a free slot is the count 0 of such a slot (R49). -/
theorem poolSound_of_refs (hlength : s.pool.slots.length = 128)
    (hzero : s.pool.slot 0 = some ⟨Grade.flat, 0⟩)
    (hrefs : ∀ n < 128, n ≠ 0 → s.pool.refs n = holders s n)
    (hscenes : ∀ r ∈ s.scenes, r.slot < 128)
    (hentries : ∀ e ∈ s.history.entries, ∀ n ∈ e.slot?, n < 128)
    (hcurrent : s.controller.current.slot < 128)
    (hincoming : ∀ c ∈ s.controller.incoming, c.slot < 128)
    (hedits : ∀ e ∈ s.history.entries, editedSlot e ≠ some 0) : PoolSound s := by
  refine ⟨hlength, hzero, hrefs, fun n hn hfree => ?_, hscenes, hentries, hcurrent, hincoming,
    hedits⟩
  have h0 : n ≠ 0 := by
    rintro rfl
    simp [hzero] at hfree
  rw [← hrefs n hn h0, Pool.refs_of_free hfree]

/-- A free slot has no grade. -/
theorem gradeOf_eq_none : gradeOf s n = none ↔ s.pool.slot n = none := Option.map_eq_none_iff

/-- A slot with a grade is allocated. -/
theorem exists_slot_of_gradeOf {g : Grade} (h : gradeOf s n = some g) :
    ∃ r, s.pool.slot n = some r ∧ r.grade = g := Option.map_eq_some_iff.mp h

/-! ## A push (R86, R87) -/

/-- Step 2 of a push: the entry is the newest, and its reference is claimed (R86, R87). -/
def State.append (e : Entry) (s : State) : State :=
  { s with
    history := { s.history with entries := s.history.entries ++ [e] }
    pool := s.pool.claimEntry e }

/-- A push makes room and appends (R87). -/
theorem State.push_eq_append (e : Entry) : s.push e = s.discardOldest.append e := rfl

/-- A push makes room, if it must, by discarding the oldest entry of a full history: its reference is released and the complete flag cleared (R87). -/
theorem State.discardOldest_cases :
    (s.history.entries.length < 16 ∧ s.discardOldest = s) ∨
    ∃ e rest, s.history.entries = e :: rest ∧ 16 ≤ s.history.entries.length ∧
      s.discardOldest = { s with history := ⟨rest, false⟩, pool := s.pool.releaseEntry e } := by
  unfold State.discardOldest Config.historyPlaces
  split
  next e rest hentries =>
    split
    next hfull => exact .inr ⟨e, rest, hentries, hfull, rfl⟩
    next hroom => exact .inl ⟨by omega, rfl⟩
  next hempty => exact .inl ⟨by simp [hempty], rfl⟩

/-- The history after a push (R87). -/
theorem State.push_pushed (e : Entry) : Pushed e s (s.push e) := by
  rw [State.push_eq_append, State.append]
  unfold Pushed
  rcases State.discardOldest_cases (s := s) with ⟨hroom, heq⟩ | ⟨old, rest, hentries, hfull, heq⟩
  · rw [if_pos hroom, heq]
  · rw [if_neg (by omega), heq, hentries, List.tail_cons]

/-- Making room in the history only counts references (R87). -/
theorem State.recounted_discardOldest : s.pool.Recounted s.discardOldest.pool := by
  rcases State.discardOldest_cases (s := s) with ⟨-, heq⟩ | ⟨e, _, -, -, heq⟩
  · rw [heq]
    exact Pool.Recounted.refl _
  · rw [heq]
    exact Pool.recounted_releaseEntry e

/-- A push only counts references (R86, R87). -/
theorem State.recounted_push (e : Entry) : s.pool.Recounted (s.push e).pool :=
  State.recounted_discardOldest.trans (Pool.recounted_claimEntry e)

/-- The entry that leaves the history is one holder fewer (R86). -/
theorem holders_discard {e : Entry} {rest : List Entry} (hentries : s.history.entries = e :: rest)
    (b : Bool) (p : Pool) :
    holders { s with history := ⟨rest, b⟩, pool := p } n =
      holders s n - if e.slot? = some n then 1 else 0 := by
  simp only [holders, hentries, List.countP_cons, beq_iff_eq]
  omega

/-- The entry that joins the history is one holder more (R86). -/
theorem holders_append (e : Entry) :
    holders (s.append e) n = holders s n + if e.slot? = some n then 1 else 0 := by
  unfold State.append
  simp only [holders, List.countP_append, List.countP_singleton, beq_iff_eq]
  omega

/-- The oldest entry takes its reference with it: law L3 is kept (R86, R87). -/
theorem poolSound_discardOldest (hs : PoolSound s) : PoolSound s.discardOldest := by
  rcases State.discardOldest_cases (s := s) with ⟨-, heq⟩ | ⟨e, rest, hentries, -, heq⟩
  · rwa [heq]
  have hrecounted := Pool.recounted_releaseEntry (p := s.pool) e
  have hcounts := fun n => refs_eq_holders (n := n) hs
  obtain ⟨hlength, hzero, -, -, hscenes, hslots, hcurrent, hincoming, hedits⟩ := hs
  have hkept : ∀ x ∈ rest, x ∈ s.history.entries := fun x hx => by simp [hentries, hx]
  rw [heq]
  refine poolSound_of_refs (hrecounted.length.trans hlength) (hrecounted.zero.trans hzero)
    (fun n hn h0 => ?_) hscenes (fun x hx => hslots x (hkept x hx)) hcurrent hincoming
    (fun x hx => hedits x (hkept x hx))
  rw [holders_discard hentries, ← hcounts n hn h0]
  exact Pool.refs_releaseEntry e h0

/-- An entry that names no free slot, and writes back to none or to one of 1..127, joins: law L3 is kept (R52, R86). -/
theorem poolSound_append {e : Entry} (hs : PoolSound s)
    (halloc : ∀ m ∈ e.slot?, s.pool.slot m ≠ none) (hedit : editedSlot e ≠ some 0) :
    PoolSound (s.append e) := by
  have hrecounted := Pool.recounted_claimEntry (p := s.pool) e
  have hcounts := fun n => refs_eq_holders (n := n) hs
  obtain ⟨hlength, hzero, -, -, hscenes, hslots, hcurrent, hincoming, hedits⟩ := hs
  refine poolSound_of_refs (hrecounted.length.trans hlength) (hrecounted.zero.trans hzero)
    (fun n hn h0 => ?_) hscenes (fun x hx => ?_) hcurrent hincoming (fun x hx => ?_)
  · rw [holders_append, ← hcounts n hn h0]
    exact Pool.refs_claimEntry halloc h0
  · rcases List.mem_append.mp hx with hx | hx
    · exact hslots x hx
    · obtain rfl := List.mem_singleton.mp hx
      exact fun m hm => hlength ▸ Pool.lt_length_of_slot (halloc m hm)
  · rcases List.mem_append.mp hx with hx | hx
    · exact hedits x hx
    · rwa [List.mem_singleton.mp hx]

/-- A push keeps law L3 (R86, R87). -/
theorem poolSound_push {e : Entry} (hs : PoolSound s)
    (halloc : ∀ m ∈ e.slot?, s.pool.slot m ≠ none) (hedit : editedSlot e ≠ some 0) :
    PoolSound (s.push e) :=
  poolSound_append (poolSound_discardOldest hs)
    (fun m hm hfree => halloc m hm (State.recounted_discardOldest.slot_eq_none.mp hfree)) hedit

/-! ## A grade edit (R57, R58) -/

/-- The mark that a write sets in a context (R58). -/
theorem Context.markIf_eq_markedBy (n : Nat) (c : Context) : c.markIf n = markedBy n c := by
  unfold Context.markIf markedBy
  split
  next h => rw [beq_iff_eq.mpr h, Bool.or_true]
  next h => rw [beq_eq_false_iff_ne.mpr h, Bool.or_false]

/-- The marks that a write sets (R58). -/
theorem Controller.markSlot_eq (n : Nat) (c : Controller) :
    c.markSlot n =
      { c with current := markedBy n c.current, incoming := c.incoming.map (markedBy n) } := by
  simp only [Controller.markSlot, Context.markIf_eq_markedBy, funext (Context.markIf_eq_markedBy n)]

/-- A write moves no holder (R58). -/
theorem holders_writeSlot (m : Nat) (g : Grade) : holders (s.writeSlot n g) m = holders s m := by
  have hincoming : (s.controller.incoming.map (Context.markIf n)).map (·.slot) =
      s.controller.incoming.map (·.slot) := by
    rw [Option.map_map]
    exact congrArg (Option.map · _) (funext fun c => (Context.markIf_slot n c).1)
  simp only [holders, State.writeSlot, Controller.markSlot, Context.markIf_slot, hincoming]

/-- A write of a slot other than 0 keeps law L3. -/
theorem poolSound_writeSlot (hs : PoolSound s) (h0 : n ≠ 0) (g : Grade) :
    PoolSound (s.writeSlot n g) := by
  have hcounts := fun m => refs_eq_holders (n := m) hs
  obtain ⟨hlength, hzero, -, -, hscenes, hslots, hcurrent, hincoming, hedits⟩ := hs
  refine poolSound_of_refs ((Pool.write_length n g s.pool).trans hlength) ?zero
    (fun m hm hm0 => ?refs) hscenes hslots ?current ?incoming hedits
  case zero => simp [Pool.slot_write, h0.symm, hzero]
  case refs =>
    rw [holders_writeSlot, ← hcounts m hm hm0]
    exact Pool.refs_write g
  case current => simpa using hcurrent
  case incoming => simpa using hincoming

/-- The grades after a write of an allocated slot (R58). -/
theorem gradeOf_writeSlot (halloc : s.pool.slot n ≠ none) (g : Grade) (m : Nat) :
    gradeOf (s.writeSlot n g) m = if m = n then some g else gradeOf s m := by
  obtain ⟨r, hslot⟩ := Option.ne_none_iff_exists'.mp halloc
  simp only [gradeOf, State.writeSlot_fields, Pool.slot_write]
  split
  next h => simp [h, hslot]
  next => rfl

/-- Everything a grade edit does: the entry of the prior part is pushed, the slot holds the new grade, the contexts naming it are marked, and nothing else changes (R57, R58). -/
theorem gradeEdit_effects {e : Entry} (hs : PoolSound s) (h0 : n ≠ 0)
    (halloc : s.pool.slot n ≠ none) (hslot : e.slot? = some n) (hedit : editedSlot e = some n)
    (g : Grade) :
    (∀ m, gradeOf ((s.push e).writeSlot n g) m = if m = n then some g else gradeOf s m) ∧
    Pushed e s ((s.push e).writeSlot n g) ∧ PoolSound ((s.push e).writeSlot n g) ∧
    ((s.push e).writeSlot n g).controller = { s.controller with
      current := markedBy n s.controller.current
      incoming := s.controller.incoming.map (markedBy n) } ∧
    { (s.push e).writeSlot n g with
      history := s.history, pool := s.pool, controller := s.controller } = s := by
  have hrecounted := State.recounted_push (s := s) e
  refine ⟨fun m => ?grades, State.push_pushed e, ?sound, ?marks, ?frame⟩
  case grades =>
    rw [gradeOf_writeSlot (mt hrecounted.slot_eq_none.mp halloc) g m]
    exact congrArg (ite (m = n) (some g)) (hrecounted.grade m)
  case sound =>
    refine poolSound_writeSlot (poolSound_push hs ?_ ?_) h0 g
    · intro m hm
      obtain rfl := Option.some.inj (hslot.symm.trans hm)
      exact halloc
    · rw [hedit]
      exact fun h => h0 (Option.some.inj h)
  case marks => rw [← Controller.markSlot_eq]; simp
  case frame => rw [State.push_eq]; rfl

end
end Sys2Proof.Machine

/-! GRADE NEW and GRADE DROP (R48, R50), GRADE VECTOR and GRADE VECTOR DELETE (R55, R56): their tests, what a taken request does, and its reply. -/

namespace Sys2Proof.Machine

open Safety

/-! ## Limited values (R53) -/

/-- The clamp of a number that is not negative, from 0 (Table 0-3). -/
theorem clampNat_zero (hi x : Nat) : clampNat 0 hi x = min hi x := by
  unfold clampNat
  split
  · omega
  · split <;> omega

/-- The clamp as a minimum and a maximum (Table 0-3). -/
theorem clampInt_eq {lo hi : Int} (h : lo ≤ hi) (x : Int) :
    clampInt lo hi x = max lo (min hi x) := by
  unfold clampInt
  split
  · omega
  · split <;> omega

/-- Only a number above the limit is limited, from 0 (R53). -/
theorem clampedNat_zero (hi x : Nat) : clampedNat 0 hi x = if hi < x then 1 else 0 := by
  simp only [clampedNat, Nat.not_lt_zero, false_or]

/-- A 12-bit box value is within its limit. -/
theorem clampNat_box (a : BitVec 12) : clampNat 0 4095 a.toNat = a.toNat := by
  rw [clampNat_zero]
  omega

/-- A 12-bit box value is never limited. -/
theorem clampedNat_box (a : BitVec 12) : clampedNat 0 4095 a.toNat = 0 := by
  rw [clampedNat_zero]
  exact if_neg (by omega)

/-- The values limited of one kind, summed over the channels, are those that fail its test. -/
theorem sumRGB_map_ite {α : Type} (p : α → Prop) [DecidablePred p] (t : RGB α) :
    sumRGB (t.map fun a => if p a then 1 else 0) = t.toList.countP (fun a => decide (p a)) := by
  simp only [sumRGB, RGB.map, RGB.toList, List.countP_cons, List.countP_nil, decide_eq_true_eq]
  omega

end Sys2Proof.Machine

namespace Sys2Proof

open Machine

/-- A vector's box is stored as it was sent (R53). -/
theorem WireVector.stored_box (v : WireVector) :
    v.stored.lo = v.lo.map (·.toNat) ∧ v.stored.hi = v.hi.map (·.toNat) := by
  simp only [WireVector.stored, clampNat_box, and_self]

/-- A vector's offsets are limited to -1023..1023 (R53). -/
theorem WireVector.stored_offset (v : WireVector) :
    v.stored.offset = v.offset.map (fun o => max (-1023) (min 1023 o.toInt)) := by
  have hclamp : ∀ x, clampInt (-1023) 1023 x = max (-1023) (min 1023 x) := clampInt_eq (by decide)
  simp only [WireVector.stored, hclamp]

/-- A rectangle is limited to the picture's 720 pixels and 576 lines (R53). -/
theorem WireRect.stored_eq (q : WireRect) :
    q.stored = ⟨min 719 q.x0.toNat, min 719 q.x1.toNat, min 575 q.y0.toNat, min 575 q.y1.toNat⟩ := by
  simp only [WireRect.stored, clampNat_zero]

/-- A vector's rectangle, where it has one, is limited coordinate by coordinate (R53). -/
theorem WireVector.stored_rect (v : WireVector) :
    v.stored.rect = v.rect.map (fun q =>
      ⟨min 719 q.x0.toNat, min 719 q.x1.toNat, min 575 q.y0.toNat, min 575 q.y1.toNat⟩) :=
  congrArg (Option.map · v.rect) (funext WireRect.stored_eq)

/-- The coordinates of a rectangle that are limited (R53). -/
theorem WireRect.clamped_eq (q : WireRect) :
    q.clamped = [q.x0, q.x1].countP (fun x => decide (719 < x.toNat)) +
      [q.y0, q.y1].countP (fun y => decide (575 < y.toNat)) := by
  simp only [WireRect.clamped, clampedNat_zero, List.countP_cons, List.countP_nil,
    decide_eq_true_eq]
  omega

/-- The values of a vector that are limited: offsets and coordinates, never the box (R53). -/
theorem WireVector.clamped_eq (v : WireVector) :
    v.clamped = v.offset.toList.countP (fun o => decide (o.toInt < -1023 ∨ 1023 < o.toInt)) +
      (match v.rect with
      | some q => [q.x0, q.x1].countP (fun x => decide (719 < x.toNat)) +
        [q.y0, q.y1].countP (fun y => decide (575 < y.toNat))
      | none => 0) := by
  have hbox : ∀ t : RGB (BitVec 12), sumRGB (t.map fun a => clampedNat 0 4095 a.toNat) = 0 := by
    simp [sumRGB, RGB.map, clampedNat_box]
  have hoffset := sumRGB_map_ite (fun o : BitVec 16 => o.toInt < -1023 ∨ 1023 < o.toInt) v.offset
  rw [WireVector.clamped, hbox, hbox, Nat.zero_add, ← hoffset]
  congr 1
  cases v.rect with
  | none => rfl
  | some q => exact q.clamped_eq

end Sys2Proof

namespace Sys2Proof.Machine

open Safety

/-! ## The service of a grade request -/

/-- An accepted request whose owner answers at once ends with that answer (R173 to R175). -/
theorem serveRequest_answers {c : Cue} {s t : State} {r : Result} {data : List Byte}
    {owner : State → State × Answer} (h : Accepted c s)
    (howner : owner (served s) = (t, some (r, data))) :
    serveRequest c owner s = .next (answered c r data t) := by
  rw [serveRequest_of_accepted h, howner, answered]

/-- A slot number that came from a byte is answered in that byte. -/
theorem byteOf_toNat (b : Byte) : byteOf b.toNat = b := by
  simp [byteOf]

section
variable {n : Nat} {edit : Slot → State × Answer} {s : State}

/-- Test 1 of Table 3-4. -/
theorem withEditable_above (h : 127 < n) : withEditable n edit s = (s, refuse .notFound) :=
  if_pos h

/-- Test 2 of Table 3-4. -/
theorem withEditable_zero : withEditable 0 edit s = (s, refuse .readOnly) := rfl

/-- Test 3 of Table 3-4. -/
theorem withEditable_free (h0 : n ≠ 0) (h : s.pool.slot n = none) :
    withEditable n edit s = (s, refuse .notFound) := by
  simp only [withEditable, h0, h, if_false, ite_self]

/-- An allocated slot other than 0 passes the tests 1 to 3 of Table 3-4. -/
theorem withEditable_allocated {r : Slot} (hlt : n < 128) (h0 : n ≠ 0)
    (h : s.pool.slot n = some r) : withEditable n edit s = edit r := by
  have hle : ¬ Config.poolSlots ≤ n := Nat.not_le.mpr hlt
  rw [withEditable, if_neg hle, if_neg h0, h]

end

/-- A grade request is refused above 127 and for slot 0; for a slot of 1..127 what remains is `rest` (tests 1 and 2 of Table 3-4). -/
theorem refused_or_slot {i : Instr} {c : Cue} {slot : Byte} {edit : Slot → State × Answer}
    {s : State} {rest : Prop}
    (hexec : ∀ {t r data}, withEditable slot.toNat edit (served s) = (t, some (r, data)) →
      exec i s = .next (answered c r data t))
    (hrest : slot.toNat < 128 → slot.toNat ≠ 0 → rest) :
    if 127 < slot.toNat then RefusedWith i c .notFound s
    else if slot = 0 then RefusedWith i c .readOnly s
    else rest := by
  split
  next habove => exact hexec (withEditable_above habove)
  next hle =>
    split
    next hzero =>
      subst hzero
      exact hexec withEditable_zero
    next hne =>
      exact hrest (by omega) fun h => hne (BitVec.eq_of_toNat_eq h)

/-! ## GRADE NEW and GRADE DROP -/

/-- The pool with slot `n` given the contents `o`. -/
def State.setSlot (n : Nat) (o : Option Slot) (s : State) : State :=
  { s with pool := ⟨s.pool.slots.set n o⟩ }

section
variable {n : Nat} {s : State}

/-- Giving one place other contents changes no other slot. -/
theorem State.setSlot_slot (o : Option Slot) (hn : n < s.pool.slots.length) (m : Nat) :
    (s.setSlot n o).pool.slot m = if m = n then o else s.pool.slot m :=
  Pool.slot_set o hn

/-- With no slot free GRADE NEW is refused, and the pool is unchanged (R48). -/
theorem gradeNew_full (h : ∀ m < s.pool.slots.length, s.pool.slot m ≠ none) :
    gradeNew s = (s, refuse .full) := by
  rw [gradeNew, Pool.firstFree_of_full h]
  rfl

/-- GRADE NEW allocates the lowest free slot, flat and with no holder (R48). -/
theorem gradeNew_lowest (hlength : s.pool.slots.length = 128) (hn : n < 128)
    (hfree : s.pool.slot n = none) (hlower : ∀ m < n, s.pool.slot m ≠ none) :
    gradeNew s = (s.setSlot n (some ⟨Grade.flat, 0⟩), some (.done, [byteOf n])) := by
  rw [gradeNew, Pool.firstFree_of_lowest (hlength ▸ hn) hfree hlower]
  exact if_pos hn

variable {r : Slot}

/-- A slot still named is not dropped; the answer is its count (R50). -/
theorem gradeDrop_held (hlt : n < 128) (h0 : n ≠ 0) (hslot : s.pool.slot n = some r)
    (hheld : 0 < r.refs) : gradeDrop n s = (s, some (.inUse, natBytes r.refs)) := by
  rw [gradeDrop, withEditable_allocated hlt h0 hslot, if_pos hheld]

/-- A slot nobody names is freed (R50). -/
theorem gradeDrop_unheld (hlt : n < 128) (h0 : n ≠ 0) (hslot : s.pool.slot n = some r)
    (hunheld : ¬ 0 < r.refs) :
    gradeDrop n s = (s.setSlot n none, some (.done, [byteOf n])) := by
  rw [gradeDrop, withEditable_allocated hlt h0 hslot, if_neg hunheld]
  rfl

end

/-- Settles O53: GRADE NEW by the lowest free slot, GRADE DROP by the count that a sound pool keeps. -/
theorem gradeNewAndDrop : Obligations.GradeNewAndDrop := by
  unfold Obligations.GradeNewAndDrop
  refine ⟨?new, ?drop⟩
  case new =>
    intro src dst s c i haccepted hsound
    obtain ⟨hlength, hzero, -⟩ := hsound
    refine ⟨fun hfull => ?_, fun n hn hfree hlower => ?_⟩
    · exact serveRequest_answers haccepted
        (gradeNew_full (s := served s) fun m hm => hfull m (hlength ▸ hm))
    · have h0 : n ≠ 0 := by
        rintro rfl
        simp [hzero] at hfree
      have hslots := State.setSlot_slot (s := served s) (some ⟨Grade.flat, 0⟩) (hlength ▸ hn)
      exact ⟨_, serveRequest_answers haccepted
          (gradeNew_lowest (s := served s) hlength hn hfree hlower),
        Nat.pos_of_ne_zero h0, (hslots n).trans (if_pos rfl),
        fun m hm => (hslots m).trans (if_neg hm), rfl⟩
  case drop =>
    intro src dst slot s c i haccepted hsound
    have hexec := fun {t r data} => serveRequest_answers (t := t) (r := r) (data := data)
      (owner := gradeDrop slot.toNat) haccepted
    refine refused_or_slot hexec fun hlt h0 => ?_
    have hrefs := refs_eq_holders hsound hlt h0
    cases hslot : s.pool.slot slot.toNat with
    | none => exact hexec (withEditable_free (s := served s) h0 hslot)
    | some r =>
      rw [Pool.refs_of_slot hslot] at hrefs
      rw [if_neg (Option.some_ne_none r), ← hrefs]
      split
      next hheld => exact hexec (gradeDrop_held (s := served s) hlt h0 hslot hheld)
      next hunheld =>
        have hslots := State.setSlot_slot (s := served s) none
          (Pool.lt_length_of_slot (hslot ▸ Option.some_ne_none r))
        have hdrop := gradeDrop_unheld (s := served s) hlt h0 hslot hunheld
        rw [byteOf_toNat] at hdrop
        exact ⟨_, hexec hdrop, (hslots _).trans (if_pos rfl),
          fun m hm => (hslots m).trans (if_neg hm), rfl⟩

/-! ## GRADE VECTOR and GRADE VECTOR DELETE -/

/-- A taken edit of slot `n`, which held `g`: its whole prior list is pushed, then the new one written (R57). -/
def State.editVectors (n : Nat) (g : Grade) (list : List Vec) (s : State) : State :=
  (s.push (.vectorsChanged n g.vectors)).writeSlot n { g with vectors := list }

section
variable {n p : Nat} {v : WireVector} {r : Slot} {s : State}

/-- A position beyond the count is not found (Table 3-5). -/
theorem gradeVector_beyond (hlt : n < 128) (h0 : n ≠ 0) (hslot : s.pool.slot n = some r)
    (hbeyond : r.grade.vectors.length < p) : gradeVector n p v s = (s, refuse .notFound) := by
  rw [gradeVector, withEditable_allocated hlt h0 hslot, if_pos hbeyond]

/-- A list of 6 takes no further vector (Table 3-5). -/
theorem gradeVector_full (hlt : n < 128) (h0 : n ≠ 0) (hslot : s.pool.slot n = some r)
    (hfull : p = r.grade.vectors.length ∧ 6 ≤ r.grade.vectors.length) :
    gradeVector n p v s = (s, refuse .full) := by
  rw [gradeVector, withEditable_allocated hlt h0 hslot, if_neg (by omega)]
  exact if_pos hfull

/-- A vector is replaced below the count and appended at it (Table 3-5). -/
theorem gradeVector_taken (hlt : n < 128) (h0 : n ≠ 0) (hslot : s.pool.slot n = some r)
    (hbeyond : ¬ r.grade.vectors.length < p)
    (hfull : ¬ (p = r.grade.vectors.length ∧ 6 ≤ r.grade.vectors.length)) {list : List Vec}
    (hlist : list = if p < r.grade.vectors.length then r.grade.vectors.set p v.stored
      else r.grade.vectors ++ [v.stored]) :
    gradeVector n p v s = (s.editVectors n r.grade list,
      some (doneBy v.clamped, [byteOf n, byteOf p, byteOf list.length, byteOf v.clamped])) := by
  rw [gradeVector, withEditable_allocated hlt h0 hslot, if_neg hbeyond, hlist]
  exact if_neg hfull

/-- There is no vector to remove at or beyond the count (R56). -/
theorem gradeVectorDelete_beyond (hlt : n < 128) (h0 : n ≠ 0) (hslot : s.pool.slot n = some r)
    (hbeyond : r.grade.vectors.length ≤ p) :
    gradeVectorDelete n p s = (s, refuse .notFound) := by
  rw [gradeVectorDelete, withEditable_allocated hlt h0 hslot, if_pos hbeyond]

/-- A vector below the count is removed and the later ones move down by one (R56). -/
theorem gradeVectorDelete_taken (hlt : n < 128) (h0 : n ≠ 0) (hslot : s.pool.slot n = some r)
    (hbeyond : ¬ r.grade.vectors.length ≤ p) :
    gradeVectorDelete n p s =
      (s.editVectors n r.grade (r.grade.vectors.take p ++ r.grade.vectors.drop (p + 1)),
        some (.done, [byteOf n, byteOf (r.grade.vectors.length - 1)])) := by
  rw [gradeVectorDelete, withEditable_allocated hlt h0 hslot, if_neg hbeyond,
    ← List.length_eraseIdx_of_lt (Nat.not_le.mp hbeyond), ← List.eraseIdx_eq_take_drop_succ]
  rfl

end

/-- After the tests 1 to 3 of Table 3-4 a grade request goes on with the grade of an allocated slot of 1..127. -/
theorem refused_or_grade {i : Instr} {c : Cue} {slot : Byte} {edit : Slot → State × Answer}
    {s : State} {rest : Grade → Prop}
    (hexec : ∀ {t r data}, withEditable slot.toNat edit (served s) = (t, some (r, data)) →
      exec i s = .next (answered c r data t))
    (hrest : ∀ r, slot.toNat < 128 → slot.toNat ≠ 0 → s.pool.slot slot.toNat = some r →
      rest r.grade) :
    if 127 < slot.toNat then RefusedWith i c .notFound s
    else if slot = 0 then RefusedWith i c .readOnly s
    else ∀ old : Option Grade, old = gradeOf s slot.toNat →
      match old with
      | none => RefusedWith i c .notFound s
      | some g => rest g := by
  refine refused_or_slot hexec fun hlt h0 old hold => ?_
  cases old with
  | none => exact hexec (withEditable_free (s := served s) h0 (gradeOf_eq_none.mp hold.symm))
  | some g =>
    obtain ⟨r, hslot, rfl⟩ := exists_slot_of_gradeOf hold.symm
    exact hrest r hlt h0 hslot

/-- Settles O55: each request by the equations of its branches, a taken one by what every grade edit does. -/
theorem gradeVectors : Obligations.GradeVectors := by
  unfold Obligations.GradeVectors
  intro src dst slot position v s hsound
  have heffects := fun (r : Slot) (list : List Vec) (h0 : slot.toNat ≠ 0)
      (hslot : s.pool.slot slot.toNat = some r) =>
    gradeEdit_effects (s := served s) (e := .vectorsChanged slot.toNat r.grade.vectors) hsound h0
      (hslot ▸ Option.some_ne_none r) rfl rfl { r.grade with vectors := list }
  refine ⟨?put, ?delete⟩
  case put =>
    intro c i haccepted
    have hexec := fun {t r data} => serveRequest_answers (t := t) (r := r) (data := data)
      (owner := gradeVector slot.toNat position.toNat v) haccepted
    refine refused_or_grade hexec fun r hlt h0 hslot => ?_
    split
    next hbeyond => exact hexec (gradeVector_beyond (s := served s) hlt h0 hslot hbeyond)
    next hbeyond =>
      split
      next hfull => exact hexec (gradeVector_full (s := served s) hlt h0 hslot hfull)
      next hfull =>
        have htaken := gradeVector_taken (s := served s) (v := v) hlt h0 hslot hbeyond hfull rfl
        rw [byteOf_toNat, byteOf_toNat] at htaken
        exact ⟨v.stored, _, v.clamped, _, v.stored_box.1, v.stored_box.2, v.stored_offset,
          v.stored_rect, rfl, v.clamped_eq, hexec htaken, heffects r _ h0 hslot⟩
  case delete =>
    intro c i haccepted
    have hexec := fun {t r data} => serveRequest_answers (t := t) (r := r) (data := data)
      (owner := gradeVectorDelete slot.toNat position.toNat) haccepted
    refine refused_or_grade hexec fun r hlt h0 hslot => ?_
    split
    next hbeyond => exact hexec (gradeVectorDelete_beyond (s := served s) hlt h0 hslot hbeyond)
    next hbeyond =>
      have htaken := gradeVectorDelete_taken (s := served s) hlt h0 hslot hbeyond
      rw [byteOf_toNat] at htaken
      exact ⟨_, hexec htaken, heffects r _ h0 hslot⟩

end Sys2Proof.Machine

/-! The frame follower at a field boundary (R108 to R114): what a boundary leaves of the follower, which latches it keeps, and the cases by which the current frame is settled. -/

namespace Sys2Proof.Machine

open Safety

/-! ## A boundary is the boundary work on the judged state (R156, R160) -/

section
variable {s t : State} {p : Bool}

/-- A declaration of loss leaves the engine unlocked (R161). -/
theorem State.loseLock_unlocked : s.loseLock.raster.locked = false := by
  simp [State.loseLock]

/-- A bad field after which lock is held declared no loss, so it touched the lock monitor alone (R158, R159). -/
theorem State.badField_of_locked (h : s.badField.raster.locked = true) :
    s.badField = { s with raster := s.badField.raster } := by
  unfold State.badField at h ⊢
  split at h
  next hlocked =>
    rw [if_pos hlocked]
    split at h
    next hfirst => rw [if_pos hfirst]
    next => exact absurd h (Bool.eq_false_iff.mp State.loseLock_unlocked)
  next hunlocked => exact absurd h hunlocked

/-- A judgement after which lock is held touches the lock monitor alone (R156). -/
theorem State.judgeField_of_locked (h : s.judgeField.raster.locked = true) :
    s.judgeField = { s with raster := s.judgeField.raster } := by
  unfold State.judgeField at h ⊢
  split
  next hopen =>
    rw [if_pos hopen] at h
    split
    next => exact s.goodField_eq
    next hbad =>
      rw [if_neg hbad] at h
      exact State.badField_of_locked h
  next => rfl

/-- The boundary work leaves the lock monitor and the video to the sync that is the boundary, and the follower as R108 to R114 settle it. -/
theorem State.fieldBoundary_fields :
    s.fieldBoundary.raster = s.raster ∧ s.fieldBoundary.video = s.video ∧
    s.fieldBoundary.follower = s.followBoundary.follower := by
  simp [State.fieldBoundary]

/-- A field sync after which lock is held does the boundary work (R160), on a state with another lock monitor and video alone. -/
theorem State.fieldSync_of_locked (h : (s.fieldSync p).raster.locked = true) :
    ∃ r v, s.fieldSync p = State.fieldBoundary { s with raster := r, video := v } := by
  unfold State.fieldSync at h ⊢
  by_cases hjudged : s.judgeField.raster.locked = true
  case pos =>
    rw [if_pos hjudged, State.judgeField_of_locked hjudged]
    exact ⟨_, _, rfl⟩
  case neg =>
    rw [if_neg hjudged] at h
    exact absurd h hjudged

/-- A boundary does its work on the state as the sync left its lock monitor and video (R160). -/
theorem fieldBoundary_of_boundary (h : Boundary p s t) :
    t = State.fieldBoundary { s with raster := t.raster, video := t.video } := by
  obtain ⟨hrunning, hexec, hlocked⟩ := h
  have hsync : s.fieldSync p = t :=
    Host.Outcome.next.inj ((whenRunning_running s (State.fieldSync p) hrunning).symm.trans hexec)
  subst hsync
  obtain ⟨r, v, hwork⟩ := State.fieldSync_of_locked hlocked
  obtain ⟨hraster, hvideo, -⟩ :=
    State.fieldBoundary_fields (s := { s with raster := r, video := v })
  rw [hwork, hraster, hvideo]

/-- The follower settles from what it is after the count has advanced (R101, R108, R109). -/
theorem State.followBoundary_follower :
    s.followBoundary.follower = s.follower.advance.settle := by
  unfold State.followBoundary
  dsimp only
  split
  next => simp
  next => rfl

/-- The follower after a field boundary is the settled one (R108, R109). -/
theorem boundary_follower (h : Boundary p s t) : t.follower = s.follower.advance.settle := by
  rw [fieldBoundary_of_boundary h]
  exact State.fieldBoundary_fields.2.2.trans State.followBoundary_follower

/-- At a boundary at which no entry is due no arrival is reported, and the field it opens is not captured (R109, R141). -/
theorem boundary_capture (h : Boundary p s t) (hdue : s.follower.advance.due = none) :
    t.detector.capture = none := by
  have harrives : State.arrives { s with raster := t.raster, video := t.video } = false :=
    Option.isSome_eq_false_iff.mpr (Option.isNone_iff_eq_none.mpr hdue)
  rw [fieldBoundary_of_boundary h, State.fieldBoundary, harrives]
  rfl

end

/-! ## Latches that stay held (R189) -/

/-- Every latch that `s` holds, `t` holds. -/
def State.LatchesKept (s t : State) : Prop := ∀ l, s.held l = true → t.held l = true

section
variable {s t u : State}

/-- An operation that leaves the latches keeps them. -/
theorem State.LatchesKept.of_eq (h : t.latches = s.latches) : s.LatchesKept t := by
  intro l hl
  rwa [State.held, h]

/-- One operation after the other keeps what both keep. -/
theorem State.LatchesKept.trans (hst : s.LatchesKept t) (htu : t.LatchesKept u) :
    s.LatchesKept u := fun l hl => htu l (hst l hl)

/-- A latch that is set is held. -/
theorem State.held_latch (l : Latch) : (s.latch l).held l = true := by
  cases l <;> simp [State.held, State.latch, Latch.bit, Latch.index]

/-- Setting a latch clears none (R189). -/
theorem State.latchesKept_latch (l : Latch) : s.LatchesKept (s.latch l) := by
  intro k hk
  simp only [State.held, State.latch_fields, BitVec.getLsbD_or] at hk ⊢
  rw [hk, Bool.true_or]

/-- TX_OVERFLOW's event clears no latch (R178). -/
theorem State.latchesKept_overflow : s.LatchesKept s.overflow := by
  unfold State.overflow
  dsimp only
  split
  next => exact .of_eq rfl
  next =>
    split
    next => exact (State.latchesKept_latch .txOverflow).trans (.of_eq rfl)
    next => exact State.latchesKept_latch .txOverflow

/-- An offer clears no latch (R178). -/
theorem State.latchesKept_offer (c : TxCue) : s.LatchesKept (s.offer c) := by
  unfold State.offer
  dsimp only
  split
  next => exact .of_eq rfl
  next =>
    split
    next =>
      refine State.LatchesKept.trans ?_ State.latchesKept_overflow
      exact .of_eq rfl
    next => exact .of_eq rfl

/-- An event's latch, once set, is held through the offer of its FAULT. -/
theorem State.latchesKept_raise_latch {l : Latch} (h : s.held l = false) :
    (s.latch l).LatchesKept (s.raise l) := by
  rw [State.raise, if_neg (Bool.eq_false_iff.mp h)]
  dsimp only
  split
  next => exact State.latchesKept_offer _
  next => exact .of_eq rfl

/-- An event clears no latch (R189). -/
theorem State.latchesKept_raise (l : Latch) : s.LatchesKept (s.raise l) := by
  cases h : s.held l with
  | true => rw [State.raise, if_pos h]; exact .of_eq rfl
  | false => exact (State.latchesKept_latch l).trans (State.latchesKept_raise_latch h)

/-- After a latch's event the latch is held (R189). -/
theorem State.held_raise (l : Latch) : (s.raise l).held l = true := by
  cases h : s.held l with
  | true => exact State.latchesKept_raise l l h
  | false => exact State.latchesKept_raise_latch h l (State.held_latch l)

/-- A cut proposal clears no latch (R81). -/
theorem State.latchesKept_propose (f : Nat) (o : Origin) : s.LatchesKept (s.propose f o) := by
  unfold State.propose
  split
  next => exact .of_eq rfl
  next =>
    split
    next => exact State.latchesKept_raise .tableFull
    next => exact .of_eq (by simp)

/-- The detector's firing clears no latch (R146, R148). -/
theorem State.latchesKept_fire (m : Measure) : s.LatchesKept (s.fire m) := by
  have hproposal : ∀ x : State,
      x.LatchesKept (if x.straps.detect then x.propose m.frame .detector else x) := by
    intro x
    split
    next => exact State.latchesKept_propose m.frame .detector
    next => exact .of_eq rfl
  unfold State.fire
  generalize TxCue.mk 15 _ = c
  dsimp only
  split
  next => exact (State.latchesKept_offer c).trans (hproposal _)
  next => exact hproposal s

/-- A transition clears no latch (R126 to R129). -/
theorem State.latchesKept_fireTransition (b : Bool) (f : CurrentFrame) (r : Scene) :
    s.LatchesKept (s.fireTransition b f r) := by
  have hreport : ∀ (x : State) (k : Transition), x.LatchesKept (x.reportScene r f k) := by
    intro x k
    unfold State.reportScene
    split
    next => exact State.latchesKept_offer _
    next => exact .of_eq rfl
  unfold State.fireTransition
  cases transitionKind b f r s.controller.holdExit with
  | cut => exact (State.LatchesKept.of_eq (by simp)).trans (hreport (s.cutTo r) .cut)
  | dissolve => exact (State.LatchesKept.of_eq (by simp)).trans (hreport (s.dissolveTo r) .dissolve)

/-- A lookup clears no latch (R125, R126). -/
theorem State.latchesKept_lookUp (b : Bool) (f : CurrentFrame) : s.LatchesKept (s.lookUp b f) := by
  unfold State.lookUp
  dsimp only
  split
  next => exact (State.latchesKept_fireTransition b f _).trans (.of_eq rfl)
  next => exact .of_eq rfl

/-- The controller's boundary work clears no latch (R123 to R130). -/
theorem State.latchesKept_controllerBoundary (b : Bool) :
    s.LatchesKept (s.controllerBoundary b) := by
  have hadvance : s.LatchesKept s.advanceDissolve := .of_eq (by simp)
  unfold State.controllerBoundary
  dsimp only
  refine hadvance.trans (State.LatchesKept.trans ?_ (.of_eq rfl))
  split
  next => exact .of_eq (by simp)
  next =>
    split
    next => exact State.latchesKept_lookUp b _
    next => exact .of_eq rfl

/-- Neither the firing nor the controller's work clears a latch, whichever comes first (R147). -/
theorem State.latchesKept_fireAndControl (m : Option Measure) (b : Bool) :
    s.LatchesKept (s.fireAndControl m b) := by
  unfold State.fireAndControl
  split
  next => exact State.latchesKept_controllerBoundary b
  next m =>
    refine State.LatchesKept.trans (t := { s with freeCount := s.freeCount + 1 }) (.of_eq rfl) ?_
    dsimp only
    split
    next => exact (State.latchesKept_fire m).trans (State.latchesKept_controllerBoundary b)
    next => exact (State.latchesKept_controllerBoundary b).trans (State.latchesKept_fire m)

/-- An install clears no latch (R39). -/
theorem State.latchesKept_installBoundary : s.LatchesKept s.installBoundary := by
  unfold State.installBoundary
  split
  next target _ _ =>
    have htable : s.LatchesKept
        { s.installTable target s.loader.buffer with loader := Loader.idle } := .of_eq (by simp)
    dsimp only
    split
    next => exact htable.trans (State.latchesKept_offer _)
    next => exact htable
  next => exact .of_eq rfl

/-- The boundary work after the follower's clears no latch. -/
theorem State.latchesKept_fieldBoundary : s.followBoundary.LatchesKept s.fieldBoundary := by
  have hcontrol := State.latchesKept_fireAndControl (s := s.followBoundary) s.firing s.arrives
  have hinstall : ∀ x : State, x.LatchesKept
      (State.installBoundary { x with
        profile := { x.profile with filmInEffect := x.profile.filmRequested } }) :=
    fun x => by
      refine State.LatchesKept.trans ?_ State.latchesKept_installBoundary
      exact .of_eq rfl
  exact (hcontrol.trans (hinstall _)).trans (.of_eq rfl)

/-- When the COAST cause goes from absent to present, COAST_HOLD is held after the boundary (R114). -/
theorem boundary_coastHold {p : Bool} (h : Boundary p s t) (habsent : s.follower.holdCoast = false)
    (hadded : s.follower.advance.settle.holdCoast = true) : t.held .coastHold = true := by
  rw [fieldBoundary_of_boundary h]
  refine State.latchesKept_fieldBoundary .coastHold ?_
  unfold State.followBoundary
  simp only [hadded, habsent, Bool.not_false, Bool.and_self, if_true]
  exact State.held_raise .coastHold

end

/-! ## The entry that is due (R108) -/

section
variable {f : Follower}

/-- The schedule's head becomes current when its first field is the present count (R108). -/
theorem Follower.settle_of_due {e : Announced} {rest : List Announced}
    (hschedule : f.schedule = e :: rest) (hfirst : e.first = f.fieldCount) :
    f.settle = { f with
      schedule := rest, current := some ⟨e.frame, e.dir, e.speed, e.span, 1⟩
      coast := 0, holdCoast := false } := by
  have hdue : f.due = some e := by simp only [Follower.due, hschedule, hfirst, if_true]
  simp only [Follower.settle, hdue, Follower.arrive, hschedule, List.tail_cons]

/-- No entry is due when the schedule has no head of the present count (R109). -/
theorem Follower.due_eq_none (h : ∀ e rest, f.schedule = e :: rest → e.first ≠ f.fieldCount) :
    f.due = none := by
  unfold Follower.due
  split
  next e rest hschedule => exact if_neg (h e rest hschedule)
  next => rfl

/-- With no entry due the current frame is carried on (R109). -/
theorem Follower.settle_of_not_due (h : f.due = none) : f.settle = f.carryOn := by
  rw [Follower.settle, h]

/-! ## The frame carried on (R109) -/

/-- An unknown frame stays unknown (R109). -/
theorem Follower.carryOn_of_unknown (h : f.current = none) : f.carryOn = f := by
  rw [Follower.carryOn, h]

variable {c : CurrentFrame}

/-- A frame at STILL stays as it is (R109). -/
theorem Follower.carryOn_of_still (h : f.current = some c) (hstill : c.speed = .still) :
    f.carryOn = f := by
  simp only [Follower.carryOn, h, if_pos hstill]

/-- A frame whose span is not used up is shown for one field more (R109). -/
theorem Follower.carryOn_of_shown_lt (h : f.current = some c) (hmoving : c.speed ≠ .still)
    (hshown : c.shown < c.span) :
    f.carryOn = { f with current := some { c with shown := c.shown + 1 } } := by
  simp only [Follower.carryOn, h, if_neg hmoving, if_pos hshown]

/-- A frame whose span is used up is coasted from (R109). -/
theorem Follower.carryOn_of_used_up (h : f.current = some c) (hmoving : c.speed ≠ .still)
    (hused : c.span ≤ c.shown) : f.carryOn = f.coastOn c := by
  simp only [Follower.carryOn, h, if_neg hmoving, if_neg (Nat.not_lt.mpr hused)]

/-! ## Coasting (R110, R111) -/

/-- The index that would come next, whether or not the reel has it (R110). -/
def CurrentFrame.nextIndex (c : CurrentFrame) : Int :=
  if c.dir = .fwd then c.frame + 1 else c.frame - 1

/-- The next frame is the next index where that lies within the reel (R110). -/
theorem nextFrame_eq {q : Reel} (hframe : c.frame < q.length) :
    nextFrame (some q) c =
      if 0 ≤ c.nextIndex ∧ c.nextIndex < q.length then some c.nextIndex.toNat else none := by
  cases hdir : c.dir with
  | fwd =>
    have hindex : c.nextIndex = c.frame + 1 := if_pos hdir
    have hwithin : 0 ≤ c.nextIndex ∧ c.nextIndex < q.length ↔ c.frame + 1 < q.length := by omega
    have hnat : c.nextIndex.toNat = c.frame + 1 := by omega
    simp only [nextFrame, hdir, hwithin, hnat]
  | rev =>
    have hindex : c.nextIndex = c.frame - 1 := if_neg (by simp [hdir])
    have hwithin : 0 ≤ c.nextIndex ∧ c.nextIndex < q.length ↔ ¬ c.frame = 0 := by omega
    have hnat : c.nextIndex.toNat = c.frame - 1 := by omega
    simp only [nextFrame, hdir, hwithin, hnat, ite_not]

/-- The conditions under which the follower places the next frame itself (R110). -/
def Follower.Coasts (c : CurrentFrame) (f : Follower) : Prop :=
  f.coast < 8 ∧ 0 ≤ c.nextIndex ∧ ∃ reel ∈ f.reel, c.nextIndex < reel.length

/-- The follower coasts to the next frame, whose span alternates (R110). -/
theorem Follower.coastOn_of_coasts (hreel : ∃ q ∈ f.reel, c.frame < q.length) (h : f.Coasts c) :
    f.coastOn c = { f with
      coast := f.coast + 1
      current := some ⟨c.nextIndex.toNat, c.dir, c.speed, alternateSpan c.span, 1⟩ } := by
  obtain ⟨q, hq, hframe⟩ := hreel
  obtain ⟨hcoast, hstart, r, hr, hend⟩ := h
  obtain rfl := Option.mem_unique hq hr
  have hnext : nextFrame f.reel c = some c.nextIndex.toNat := by
    rw [Option.mem_def.mp hq, nextFrame_eq hframe, if_pos ⟨hstart, hend⟩]
  simp only [Follower.coastOn, hnext]
  exact if_pos hcoast

/-- Coasting refused, by the coast limit or the reel edge, adds the COAST cause and nothing else (R111). -/
theorem Follower.coastOn_of_refused (hreel : ∃ q ∈ f.reel, c.frame < q.length)
    (h : ¬ f.Coasts c) : f.coastOn c = { f with holdCoast := true } := by
  obtain ⟨q, hq, hframe⟩ := hreel
  rw [Follower.coastOn, Option.mem_def.mp hq, nextFrame_eq hframe]
  by_cases hwithin : 0 ≤ c.nextIndex ∧ c.nextIndex < q.length
  case pos =>
    have hlimit : ¬ f.coast < 8 := fun hcoast => h ⟨hcoast, hwithin.1, q, hq, hwithin.2⟩
    simp only [if_pos hwithin]
    exact if_neg hlimit
  case neg => simp only [if_neg hwithin]

end

/-- The current frame lies within the reel (Table 6-5). -/
theorem current_within_reel {s : State} {c : CurrentFrame} (h : FollowerSound s)
    (hcurrent : s.follower.current = some c) : ∃ q ∈ s.follower.reel, c.frame < q.length := by
  obtain ⟨-, -, -, -, hcurrents, -⟩ := h
  obtain ⟨-, -, -, hwithin⟩ := hcurrents c hcurrent
  exact hwithin

/-- Settles O39: what the boundary leaves of the follower is the settled one, taken by the cases of R108 to R111; the soundness of the follower puts the frame coasted from within the reel. -/
theorem currentFrameAtBoundary : Obligations.CurrentFrameAtBoundary := by
  unfold Obligations.CurrentFrameAtBoundary
  intro p s t hboundary hsound
  have hsettled := boundary_follower hboundary
  refine ⟨fun e rest hschedule hfirst => ?arrival, fun hnone => ?noArrival⟩
  case arrival => exact hsettled.trans (Follower.settle_of_due hschedule hfirst)
  case noArrival =>
    have hdue : s.follower.advance.due = none := Follower.due_eq_none hnone
    have hcarried : t.follower = s.follower.advance.carryOn :=
      hsettled.trans (Follower.settle_of_not_due hdue)
    refine ⟨boundary_capture hboundary hdue,
      fun hunknown => hcarried.trans (Follower.carryOn_of_unknown hunknown),
      fun c hcurrent => ⟨fun hstill => ?still, fun hmoving hshown => ?shownOn,
        fun hmoving hused => ?usedUp⟩⟩
    case still => exact hcarried.trans (Follower.carryOn_of_still hcurrent hstill)
    case shownOn => exact hcarried.trans (Follower.carryOn_of_shown_lt hcurrent hmoving hshown)
    case usedUp =>
      have hreel := current_within_reel hsound hcurrent
      have hcoasted : t.follower = s.follower.advance.coastOn c :=
        hcarried.trans (Follower.carryOn_of_used_up hcurrent hmoving hused)
      refine ⟨fun hcoasts => hcoasted.trans (Follower.coastOn_of_coasts hreel hcoasts),
        fun hrefused => ?refused⟩
      have hheld := hcoasted.trans (Follower.coastOn_of_refused hreel hrefused)
      exact ⟨hheld, fun habsent => boundary_coastHold hboundary habsent (by rw [← hsettled, hheld])⟩

end Sys2Proof.Machine

/-! What one command does: the services by the cue they end, the cues taken at their arrival, and every other command, once for all proofs about steps. -/

namespace Sys2Proof.Machine

open Safety

/-! ## Services -/

/-- Two bytes carry the number they were made of (R167). -/
theorem word16_bytesOf16 (w : U16) : word16 (w.extractLsb' 8 8) (w.extractLsb' 0 8) = w := by
  unfold word16
  ext i hi
  simp only [BitVec.getElem_append, BitVec.getElem_extractLsb']
  split
  · simp [BitVec.getLsbD_eq_getElem hi]
  · simp [show 8 + (i - 8) = i by omega, BitVec.getLsbD_eq_getElem hi]

/-- What answers a request (R174): the owner of its kind. A CUT has none. -/
def ownerOf (c : Cue) : State → State × Answer :=
  match c.body with
  | .sceneMark f g t n => sceneMark f.toNat g t n
  | .sceneClear f => sceneClear f.toNat
  | .sceneSet f g t n k => sceneSet f.toNat g t n k
  | .scenePurge => scenePurge
  | .sceneQuery m a => sceneQuery m a.toNat
  | .gradeNew => gradeNew
  | .gradePrimary n p => gradePrimary n.toNat p
  | .gradeVector n p v => gradeVector n.toNat p.toNat v
  | .gradeVectorDelete n p => gradeVectorDelete n.toNat p.toNat
  | .gradeDrop n => gradeDrop n.toNat
  | .gradeQuery n t p => gradeQuery n.toNat t p.toNat
  | .loadStart k n a m => loadStart k n a.toNat m
  | .loadData vs => loadData (vs.map (·.toNat))
  | .loadInstall => loadInstall c.src c.dst
  | .loadCancel => loadCancel
  | .portRead p => portRead p
  | .portWrite p d => portWrite p d
  | .undo => undo
  | .clearFaults m => clearFaults m
  | .cut .. => fun s => (s, none)

/-- What the service of a cue does: a CUT is a proposal, anything else a request (R149, R174). -/
def serviceWork (c : Cue) : State → State :=
  match c.body with
  | .cut r f _ => State.takePeerCut c.src r.toNat f.toNat
  | _ => handle c (ownerOf c)

/-- A command that ends a service is the service of its cue, also where a PORT WRITE has a command of its own (R193). -/
theorem exec_service {i : Instr} {c : Cue} (h : serviceCue i = some c) (s : State) :
    exec i s = whenRunning (serve c (serviceWork c)) s := by
  have hword (w : U16) :
      portWrite 4 (bytesOf16 w) = writeEnables w ∧
      portWrite 9 (bytesOf16 w) = writeThreshold w.toNat ∧
      portWrite 10 (bytesOf16 w) = writeMinScene w.toNat := by
    refine ⟨?_, ?_, ?_⟩ <;> conv_rhs => rw [← word16_bytesOf16 w]
    all_goals rfl
  have hrow (row : Channel) (k : RGB (BitVec 16)) :
      portWrite (Channel.port row) (bytesOf16 k.r ++ bytesOf16 k.g ++ bytesOf16 k.b) =
        writeMatrixRow row k := by
    have hk : k = ⟨word16 (k.r.extractLsb' 8 8) (k.r.extractLsb' 0 8),
        word16 (k.g.extractLsb' 8 8) (k.g.extractLsb' 0 8),
        word16 (k.b.extractLsb' 8 8) (k.b.extractLsb' 0 8)⟩ := by
      simp only [word16_bytesOf16]
    conv_rhs => rw [hk]
    cases row <;> rfl
  cases i <;> cases h
  case portWriteReportEnables src dst w =>
    exact congrArg (fun o => serveRequest _ o s) (hword w).1.symm
  case portWriteMatrix src dst row k =>
    exact congrArg (fun o => serveRequest _ o s) (hrow row k).symm
  case portWriteCutThreshold src dst w =>
    exact congrArg (fun o => serveRequest _ o s) (hword w).2.1.symm
  case portWriteMinScene src dst w =>
    exact congrArg (fun o => serveRequest _ o s) (hword w).2.2.symm
  all_goals rfl

/-! ## One command -/

/-- The source and the cue of a command that takes a cue at its arrival (R172). -/
def arrivalCommand : Instr → Option (Station × Arrival)
  | .reel src id len => some (src, .reel id len)
  | .frame src n d v l k => some (src, .frame n d v l k)
  | .present src r ask => some (src, .present r ask)
  | .lineReset src => some (src, .lineReset)
  | .hold src => some (src, .hold)
  | .release src => some (src, .release)
  | _ => none

/-- What a running engine does at a command, the two of RESET and the services left out. -/
def plainWork : Instr → State → State
  | .lineSync => fun s => { s with
      raster := { s.raster with lineCount := s.raster.lineCount + 1 }
      video := { s.video with clocksIntoLine := 0 } }
  | .fieldSync p => State.fieldSync p
  | .missingSyncExpiry => State.missingSync
  | .rollCallWindowEnd => fun s => { s with rollCall := none }
  | .guardComplete heard => State.guardComplete heard
  | .transmitStart => State.transmitStart
  | .deferralYield => fun s => { s with line := { s.line with idle := false, deferral := none } }
  | .transmitAbandon => State.transmitAbandon
  | .transmitComplete => State.transmitComplete
  | .pixelClock r g b l f p => State.pixelClock ⟨r.toNat, g.toNat, b.toNat⟩ l f p
  | _ => id

/-- Everything one command can do to the engine. -/
inductive Effect (s : State) : Instr → State → Prop
  /-- A power-on reset (R186). -/
  | powerOn (straps : Straps) : Effect s (.powerOnReset straps)
      { State.powerOn straps with freeCount := s.freeCount, pending := s.pending }
  /-- RESET is asserted (R154). -/
  | asserted : Effect s .resetAsserted { State.cold s.straps with
      resetHeld := true, freeCount := s.freeCount, pending := s.pending }
  /-- While RESET is held no other command acts (R154, R186). -/
  | held {c : Instr} : ¬ IsReset c → s.resetHeld = true → Effect s c s
  /-- A cue is taken at its arrival (R172). -/
  | arrival {c : Instr} {src : Station} {a : Arrival} : arrivalCommand c = some (src, a) →
      s.resetHeld = false → Effect s c (s.takeArrival src 15 a)
  /-- A service ends (R174). -/
  | service {i : Instr} {c : Cue} : serviceCue i = some c → s.resetHeld = false →
      Effect s i (serve c (serviceWork c) s)
  /-- Any other command. -/
  | plain {c : Instr} : ¬ IsReset c → arrivalCommand c = none → serviceCue c = none →
      s.resetHeld = false → Effect s c (plainWork c s)

/-- A command that takes a cue at its arrival takes it on a running engine (R172). -/
theorem exec_arrival {c : Instr} {src : Station} {a : Arrival}
    (h : arrivalCommand c = some (src, a)) (s : State) :
    exec c s = whenRunning (State.takeArrival src 15 a) s := by
  cases c <;> cases h <;> rfl

/-- Any other command does its work on a running engine. -/
theorem exec_plain {c : Instr} (hreset : ¬ IsReset c) (harrival : arrivalCommand c = none)
    (hservice : serviceCue c = none) (s : State) : exec c s = whenRunning (plainWork c) s := by
  cases c
  case powerOnReset straps => exact absurd (.inr ⟨straps, rfl⟩) hreset
  case resetAsserted => exact absurd (.inl rfl) hreset
  case lineSync | fieldSync | missingSyncExpiry | rollCallWindowEnd | guardComplete
      | transmitStart | deferralYield | transmitAbandon | transmitComplete | pixelClock => rfl
  case reel | frame | present | lineReset | hold | release => cases harrival
  all_goals cases hservice

/-- Every command has an outcome, and it is a next state. -/
theorem exec_effect (c : Instr) (s : State) : ∃ t, exec c s = .next t ∧ Effect s c t := by
  by_cases hreset : IsReset c
  case pos =>
    rcases hreset with rfl | ⟨straps, rfl⟩
    · exact ⟨_, rfl, .asserted⟩
    · exact ⟨_, rfl, .powerOn straps⟩
  case neg =>
  have hwork : ∃ act, exec c s = whenRunning act s ∧
      (s.resetHeld = false → Effect s c (act s)) := by
    cases hservice : serviceCue c with
    | some q => exact ⟨_, exec_service hservice s, .service hservice⟩
    | none =>
      cases harrival : arrivalCommand c with
      | some q => exact ⟨_, exec_arrival harrival s, .arrival harrival⟩
      | none =>
        exact ⟨_, exec_plain hreset harrival hservice s, .plain hreset harrival hservice⟩
  obtain ⟨act, hexec, heffect⟩ := hwork
  cases hheld : s.resetHeld with
  | true => exact ⟨s, hexec.trans (whenRunning_held s act hheld), .held hreset hheld⟩
  | false => exact ⟨act s, hexec.trans (whenRunning_running s act hheld), heffect hheld⟩

/-- While RESET is held no command but the two of RESET acts (R154, R186). -/
theorem exec_held {c : Instr} {s : State} (hc : ¬ IsReset c) (h : s.resetHeld = true) :
    exec c s = .next s := by
  obtain ⟨t, hexec, heffect⟩ := exec_effect c s
  cases heffect with
  | asserted => exact absurd (.inl rfl) hc
  | powerOn straps => exact absurd (.inr ⟨straps, rfl⟩) hc
  | held => exact hexec
  | arrival _ hrunning => exact absurd h (Bool.eq_false_iff.mp hrunning)
  | service _ hrunning => exact absurd h (Bool.eq_false_iff.mp hrunning)
  | plain _ _ _ hrunning => exact absurd h (Bool.eq_false_iff.mp hrunning)

/-- What a command leaves, it leaves by its effect. -/
theorem effect_of_exec {c : Instr} {s t : State} (h : exec c s = .next t) : Effect s c t := by
  obtain ⟨u, hu, heffect⟩ := exec_effect c s
  obtain rfl := Host.Outcome.next.inj (hu.symm.trans h)
  exact heffect

/-- A step is the idling of an empty queue, or the effect of its front command (logs 14, 15). -/
theorem step_cases {s t : State} (h : step s = .next t) :
    t = s ∨ ∃ c rest, Effect { s with pending := rest } c t := by
  unfold step at h
  split at h
  next c rest _ => exact .inr ⟨c, rest, effect_of_exec h⟩
  next => exact .inl (Host.Outcome.next.inj h).symm

/-- Settles O1: the front command is what the step takes off the queue. -/
theorem stepRunsFrontCommand : Obligations.StepRunsFrontCommand := by
  unfold Obligations.StepRunsFrontCommand
  intro c rest s
  rfl

end Sys2Proof.Machine

/-! What the commands of the cue line do outside it: a chain of takings and services with line work between them. A law that speaks of nothing of the line has to be looked at for these alone and for the syncs, the pixel clock and RESET. -/

namespace Sys2Proof.Machine

open Safety

/-! ## Line work -/

/-- `t` is `s` but for the line, the latches and the count of free choices. -/
def State.LineWork (s t : State) : Prop :=
  t = { s with line := t.line, latches := t.latches, freeCount := t.freeCount }

section
variable {s t u : State}

/-- Doing nothing is line work. -/
theorem State.LineWork.refl (s : State) : s.LineWork s := rfl

/-- Line work adds up. -/
theorem State.LineWork.trans (hst : s.LineWork t) (htu : t.LineWork u) : s.LineWork u := by
  unfold State.LineWork at hst htu ⊢
  rw [htu, hst]

/-- An offer is line work (R178). -/
theorem State.lineWork_offer (c : TxCue) : s.LineWork (s.offer c) := by
  unfold State.LineWork
  rw [State.offer_eq]

/-- CANCELLED to the requester of a pending install is line work (R41). -/
theorem State.lineWork_replyCancelled : s.LineWork s.replyCancelled := by
  unfold State.replyCancelled
  split
  next => exact State.lineWork_offer _
  next => exact .refl s

/-- A latch's event is line work (R191). -/
theorem State.lineWork_raise (l : Latch) : s.LineWork (s.raise l) := by
  unfold State.LineWork
  rw [State.raise_eq]

/-- A reply is line work (R175). -/
theorem State.lineWork_reply (c : Cue) (a : Answer) : s.LineWork (s.reply c a) := by
  unfold State.LineWork
  rw [State.reply_eq]

/-- A cue that joins the FIFO, or finds it full, is line work (R173). -/
theorem State.lineWork_enqueueRx (c : Cue) : s.LineWork (s.enqueueRx c) := by
  unfold State.enqueueRx
  split
  next => exact State.lineWork_raise .rxOverrun
  next => rfl

/-- An own number heard is line work (R171, R187). -/
theorem State.lineWork_duplicateFound : s.LineWork s.duplicateFound := by
  have hmuted : ∀ x : State, x.LineWork x.muted := fun _ => rfl
  unfold State.duplicateFound
  dsimp only
  split
  next =>
    have hcount : s.LineWork { s with freeCount := s.freeCount + 1 } := rfl
    split
    next => exact (hcount.trans (State.lineWork_raise .address)).trans (hmuted _)
    next => exact (hcount.trans (hmuted _)).trans (State.lineWork_raise .address)
  next => exact (hmuted s).trans (State.lineWork_raise .address)

/-- Contention at a guard is line work (R165). -/
theorem State.lineWork_contendAtGuard (e : Option TxEntry) : s.LineWork (s.contendAtGuard e) := by
  unfold State.contendAtGuard
  dsimp only
  split
  next => split <;> rfl
  next => rfl

/-- The transmitter's commands are line work (R165, R166). -/
theorem State.lineWork_transmitter :
    s.LineWork s.transmitStart ∧ s.LineWork s.transmitAbandon ∧ s.LineWork s.transmitComplete := by
  refine ⟨?_, ?_, ?_⟩
  · unfold State.transmitStart
    split <;> rfl
  · unfold State.transmitAbandon
    split
    next j _ =>
      split
      next =>
        have hdropped : s.LineWork { s with line := { s.line with
          tx := dropTx j s.line.tx, inFlight := none } } := rfl
        exact hdropped.trans (State.lineWork_raise .lineCheck)
      next => rfl
    next => rfl
  · unfold State.transmitComplete
    split <;> rfl

end

/-! ## What cues do -/

/-- What a line reset clears, before the own PRESENT is offered (R188, Table 11-4). -/
def State.lineCleared (s : State) : State :=
  { s with
    roster := ownRoster s.straps.station
    line := { s.line.silence with fifo := [] }
    latches := 0
    loader := Loader.idle
    follower := { s.follower with
      schedule := [], current := none, coast := 0, holdConsole := false, holdCoast := false }
    rollCall := some Config.rollCallClocks
    forcedBlack := true }

/-- A line reset clears and then offers the own PRESENT, when a CONSOLE asks for it (R188). -/
theorem State.takeLineReset_cases (s : State) (a : Station) :
    (s.role a ≠ some .console ∧ s.takeLineReset a = s) ∨
    (s.role a = some .console ∧ s.takeLineReset a = s.lineCleared.offer (presentCue false)) := by
  unfold State.takeLineReset
  by_cases h : s.role a = some .console
  · exact .inr ⟨h, if_neg (not_not.mpr h)⟩
  · exact .inl ⟨h, if_pos h⟩

/-- One thing that a cue does to the engine. -/
inductive Touch (s : State) : State → Prop
  | line {t : State} : s.LineWork t → Touch s t
  /-- Another reel (R98). -/
  | reel (id len : Nat) : 0 < len → Touch s (s.changeReel ⟨id, len⟩)
  /-- The reel held, again (R99). -/
  | rethread : Touch s s.rethread
  /-- A frame enters the schedule (R104). -/
  | frame {r : Reel} {e : Announced} (lead span : Nat) : s.follower.reel = some r →
      e.frame < r.length → s.raster.locked = true → s.rollCall = none → lead < 4 → span < 4 →
      e.span = correctedSpan e.speed span →
      e.first = (s.follower.fieldCount + correctedLead lead) % 65536 →
      Touch s { s with follower := { s.follower with
        schedule := enterSchedule s.follower.fieldCount e s.follower.schedule } }
  /-- A console's HOLD or RELEASE (R113). -/
  | hold (b : Bool) : Touch s { s with follower := { s.follower with holdConsole := b } }
  /-- Another station's PRESENT (R183). -/
  | role (a : Station) (r : Role) : a ≠ s.straps.station → a ≠ 15 →
      Touch s { s with roster := s.roster.set a.toNat (some r) }
  /-- A line reset (R188). -/
  | lineReset : Touch s s.lineCleared
  /-- A peer's cut (R149). -/
  | peerCut (a : Station) (reel frame : Nat) : Touch s (s.takePeerCut a reel frame)
  /-- What the owner of a request does (R174). -/
  | owner (c : Cue) : s.engineState ≠ .rollcall → Touch s (ownerOf c s).1

/-- One thing after the other. -/
abbrev Chain : State → State → Prop := Relation.ReflTransGen Touch

section
variable {s t u : State}

/-- Line work is a chain. -/
theorem State.LineWork.chain (h : s.LineWork t) : Chain s t := .single (.line h)

/-- A REEL cue: nothing, TIMING, the reel held again, or another one (R97). -/
theorem State.chain_takeReel (src : Station) (id len : Nat) : Chain s (s.takeReel src id len) := by
  unfold State.takeReel
  split
  next => exact .refl
  next =>
    split
    next => exact (State.lineWork_raise .timing).chain
    next hlen =>
      split
      next => exact .single .rethread
      next => exact .single (.reel id len (Nat.pos_of_ne_zero hlen))

/-- The engine is in neither ROLLCALL nor UNSYNC exactly with the window over and lock held (R117). -/
theorem State.engineState_synced :
    (s.engineState ≠ .rollcall ∧ s.engineState ≠ .unsync) ↔
      s.rollCall = none ∧ s.raster.locked = true := by
  unfold State.engineState
  cases s.rollCall with
  | some n => simp
  | none =>
    cases s.raster.locked with
    | false => simp
    | true =>
      simp only [Option.isSome_none, Bool.false_eq_true, if_false, Bool.not_true, and_self,
        iff_true]
      repeat' split
      all_goals exact ⟨by decide, by decide⟩

/-- A FRAME cue: nothing, TIMING, or an entry of the schedule (R102 to R104). -/
theorem State.chain_takeFrame (src : Station) (frame : Nat) (dir : Direction) (speed : Speed)
    (lead span : BitVec 2) :
    Chain s (s.takeFrame src frame dir speed lead.toNat span.toNat) := by
  unfold State.takeFrame
  split
  next => exact .refl
  next =>
    split
    next => exact .refl
    next hstate =>
      obtain ⟨hwindow, hlock⟩ := State.engineState_synced.mp (not_or.mp hstate)
      split
      next => exact (State.lineWork_raise .timing).chain
      next r hreel =>
        split
        next => exact (State.lineWork_raise .timing).chain
        next hwithin =>
          exact .single (.frame _ _ hreel (Nat.not_le.mp hwithin) hlock hwindow lead.isLt span.isLt
            rfl rfl)

/-- A PRESENT cue: nothing, or its source's role and an answer (R183, R184). -/
theorem State.chain_takePresent (src : Station) (role ask : Byte) :
    Chain s (s.takePresent src role ask) := by
  have hanswer : ∀ x : State, x.LineWork x.answerAsk := by
    intro x
    unfold State.answerAsk
    split
    next => exact .refl x
    next => exact State.lineWork_offer _
  unfold State.takePresent
  dsimp only
  split
  next => exact .refl
  next hsrc =>
    obtain ⟨hown, hall⟩ := not_or.mp hsrc
    refine .trans (.single (.role src (Role.ofCode role) hown hall)) ?_
    split
    next => exact .refl
    next => exact (hanswer _).chain

/-- A line reset: nothing, or what it clears and the own PRESENT (R188). -/
theorem State.chain_takeLineReset (a : Station) : Chain s (s.takeLineReset a) := by
  rcases s.takeLineReset_cases a with ⟨-, h⟩ | ⟨-, h⟩
  · rw [h]
  · rw [h]
    exact .trans (.single .lineReset) (State.lineWork_offer _).chain

/-- A LINE RESET cue: taken, or kept for the service's end (R172). -/
theorem State.chain_lineResetArrives (a : Station) : Chain s (s.lineResetArrives a) := by
  unfold State.lineResetArrives
  split
  next => exact State.chain_takeLineReset a
  next => exact .single (.line rfl)

/-- A console's HOLD or RELEASE (R113). -/
theorem State.chain_takeHold (b : Bool) (a : Station) : Chain s (s.takeHold b a) := by
  unfold State.takeHold
  split
  next => exact .single (.hold b)
  next => exact .refl

/-- What a cue does at its arrival is a chain (R172). -/
theorem State.chain_takeArrival (src dst : Station) (a : Arrival) :
    Chain s (s.takeArrival src dst a) := by
  cases a with
  | reel id len => exact State.chain_takeReel src _ _
  | frame n d v l k => exact State.chain_takeFrame src _ d v l k
  | present r ask => exact State.chain_takePresent src r ask
  | lineReset => exact State.chain_lineResetArrives src
  | hold => exact State.chain_takeHold true src
  | release => exact State.chain_takeHold false src
  | queued r => exact (State.lineWork_enqueueRx _).chain

/-- What the receiver's tests leave of a frame (R171): it is discarded with LINE_CHECK, bears the own number, is ignored, or is a sound cue from another station to this one, which is taken. -/
theorem State.receive_cases (f : Frame) (s : State) :
    s.receive f = s.raise .lineCheck ∨ s.receive f = s.duplicateFound ∨ s.receive f = s ∨
    ∃ (p : Parts) (a : Arrival), p.sound = true ∧ p.src ≠ s.straps.station ∧ p.src ≠ 15 ∧
      (p.dst = s.straps.station ∨ p.dst = 15) ∧ arrivalOf p.kind p.payload = some a ∧
      s.receive f = s.takeArrival p.src p.dst a := by
  unfold State.receive
  split
  next => exact .inl rfl
  next p _ =>
    split
    next => exact .inl rfl
    next hsound =>
      split
      next => exact .inr (.inl rfl)
      next hown =>
        split
        next => exact .inr (.inr (.inl rfl))
        next hall =>
          split
          next => exact .inr (.inr (.inl rfl))
          next hdst =>
            split
            next a ha =>
              refine .inr (.inr (.inr ⟨p, a, by simpa using hsound, hown, hall, ?_, ha, rfl⟩))
              by_contra h
              exact hdst (not_or.mp h)
            next => exact .inr (.inr (.inl rfl))

/-- What a frame heard does is a chain (R171). -/
theorem State.chain_receive (f : Frame) : Chain s (s.receive f) := by
  rcases s.receive_cases f with h | h | h | ⟨p, a, -, -, -, -, -, h⟩ <;> rw [h]
  · exact (State.lineWork_raise .lineCheck).chain
  · exact State.lineWork_duplicateFound.chain
  · exact State.chain_takeArrival p.src p.dst a

/-- The line as a guard's completion finds it: busy until contention begins, its own bytes forgotten (R164, R171). -/
def State.atGuard (s : State) : State :=
  { s with line := { s.line with idle := false, deferral := none, sentWhole := none } }

/-- What a guard's completion takes of the frame before it (R164, R171). -/
def State.heardAtGuard (heard : Option Frame) (s : State) : State :=
  match heard with
  | some f => if s.isOwnCue f then s.atGuard else s.atGuard.receive f
  | none => s.atGuard

/-- A guard completes where no cue of the own is on the line: the frame is taken, then the engine contends (R164, R165). -/
theorem State.guardComplete_of_free (heard : Option Frame) (h : s.line.inFlight = none) :
    s.guardComplete heard = (s.heardAtGuard heard).contendAtGuard s.line.tx.head? := by
  unfold State.guardComplete
  rw [if_neg (by simp [h])]
  cases heard <;> rfl

/-- No guard completes while a cue of the own is on the line (log 4). -/
theorem State.guardComplete_of_sending (heard : Option Frame) (h : s.line.inFlight ≠ none) :
    s.guardComplete heard = s :=
  if_pos (Option.isSome_iff_ne_none.mpr h)

/-- What a guard's completion takes is a chain. -/
theorem State.chain_heardAtGuard (heard : Option Frame) : Chain s (s.heardAtGuard heard) := by
  have hguard : Chain s s.atGuard := State.LineWork.chain rfl
  unfold State.heardAtGuard
  split
  next f =>
    split
    next => exact hguard
    next => exact hguard.trans (State.chain_receive f)
  next => exact hguard

/-- A guard's completion is a chain (R164). -/
theorem State.chain_guardComplete (heard : Option Frame) : Chain s (s.guardComplete heard) := by
  by_cases h : s.line.inFlight = none
  · rw [State.guardComplete_of_free heard h]
    exact (State.chain_heardAtGuard heard).trans (State.lineWork_contendAtGuard _).chain
  · rw [State.guardComplete_of_sending heard h]

/-- The LINE RESETs taken at a service's end are a chain (R172). -/
theorem State.chain_takeWaiting : Chain s s.takeWaiting := by
  have hfold : ∀ (as : List Station) (x : State),
      Chain x (as.foldl (fun s a => s.takeLineReset a) x) := by
    intro as
    induction as with
    | nil => exact fun x => .refl
    | cons a as ih => exact fun x => (State.chain_takeLineReset a).trans (ih _)
  have hnone : Chain s { s with line := { s.line with lineResets := [] } } :=
    State.LineWork.chain rfl
  exact hnone.trans (hfold _ _)

/-- The service of a request is its refusal, or the owner's work and its answer (R174). -/
theorem handle_cases (c : Cue) (owner : State → State × Answer) (s : State) :
    (∃ r, handle c owner s = s.reply c (refuse r)) ∨
    (s.engineState ≠ .rollcall ∧ s.role c.src = some .console ∧
      handle c owner s = (owner s).1.reply c (owner s).2) := by
  by_cases hstate : s.engineState = .rollcall
  · exact .inl ⟨_, handle_rollcall s c owner hstate⟩
  by_cases hrole : s.role c.src = some .console
  · exact .inr ⟨hstate, hrole, handle_owner s c owner hstate hrole⟩
  · exact .inl ⟨_, handle_denied s c owner hstate hrole⟩

/-- A cue's service is a peer's cut or the handling of a request (R149, R174). -/
theorem serviceWork_cases (c : Cue) :
    (∃ r f m, c.body = .cut r f m ∧
      serviceWork c = State.takePeerCut c.src r.toNat f.toNat) ∨
    ((∀ r f m, c.body ≠ .cut r f m) ∧ serviceWork c = handle c (ownerOf c)) := by
  unfold serviceWork
  split
  next r f m h => exact .inl ⟨r, f, m, h, rfl⟩
  next h => exact .inr ⟨h, rfl⟩

/-- A cue's service is a chain (R174). -/
theorem chain_serviceWork (c : Cue) : Chain s (serviceWork c s) := by
  rcases serviceWork_cases c with ⟨r, f, m, -, h⟩ | ⟨-, h⟩ <;> rw [h]
  · exact .single (.peerCut _ _ _)
  · rcases handle_cases c (ownerOf c) s with ⟨r, hr⟩ | ⟨hstate, -, ho⟩
    · rw [hr]
      exact (State.lineWork_reply c _).chain
    · rw [ho]
      exact .trans (.single (.owner c hstate)) (State.lineWork_reply c _).chain

/-- The end of a service: nothing, its work on an empty FIFO, or its work as the head leaves the FIFO and then the LINE RESETs that waited (R173, R174, log 1). -/
theorem serve_cases (c : Cue) (act : State → State) (s : State) :
    serve c act s = s ∨
    (s.line.fifo = [] ∧ admissible s.straps.station c = true ∧ serve c act s = act s) ∨
    (s.line.fifo.head? = some c ∧ serve c act s = (act (served s)).takeWaiting) := by
  cases hfifo : s.line.fifo with
  | nil =>
    cases hadmissible : admissible s.straps.station c with
    | true => exact .inr (.inl ⟨rfl, rfl, by simp [serve, hfifo, hadmissible]⟩)
    | false => exact .inl (by simp [serve, hfifo, hadmissible])
  | cons a rest =>
    by_cases ha : a = c
    · subst ha
      have hhead : s.line.fifo.head? = some a := by rw [hfifo]; rfl
      exact .inr (.inr ⟨rfl, serve_head s a act hhead⟩)
    · exact .inl (by simp [serve, hfifo, ha])

/-- The end of a service is a chain (R174). -/
theorem chain_serve (c : Cue) : Chain s (serve c (serviceWork c) s) := by
  rcases serve_cases c (serviceWork c) s with h | ⟨-, -, h⟩ | ⟨-, h⟩ <;> rw [h]
  · exact chain_serviceWork c
  · have hserved : Chain s (served s) := State.LineWork.chain rfl
    exact hserved.trans ((chain_serviceWork c).trans State.chain_takeWaiting)

end

/-! ## One command, seen from outside the line -/

/-- What one command does: a chain of what cues do, or one of the commands that are no cue's. -/
inductive Deed (s : State) : Instr → State → Prop
  | powerOn (straps : Straps) : Deed s (.powerOnReset straps)
      { State.powerOn straps with freeCount := s.freeCount, pending := s.pending }
  | asserted : Deed s .resetAsserted { State.cold s.straps with
      resetHeld := true, freeCount := s.freeCount, pending := s.pending }
  | cues {c : Instr} {t : State} : (∀ p, c ≠ .fieldSync p) → c ≠ .missingSyncExpiry →
      Chain s t → Deed s c t
  | lineSync : Deed s .lineSync { s with
      raster := { s.raster with lineCount := s.raster.lineCount + 1 }
      video := { s.video with clocksIntoLine := 0 } }
  | held {c : Instr} : s.resetHeld = true → Deed s c s
  | fieldSync (p : Bool) : s.resetHeld = false → Deed s (.fieldSync p) (s.fieldSync p)
  | expiry : s.resetHeld = false → Deed s .missingSyncExpiry s.missingSync
  | windowEnd : Deed s .rollCallWindowEnd { s with rollCall := none }
  | pixelClock (r g b : Sample) (l f p : Bool) : Deed s (.pixelClock r g b l f p)
      (s.pixelClock ⟨r.toNat, g.toNat, b.toNat⟩ l f p)

/-- The effect of a command, seen from outside the line. -/
theorem Effect.deed {c : Instr} {s t : State} (h : Effect s c t) : Deed s c t := by
  cases h with
  | powerOn straps => exact .powerOn straps
  | asserted => exact .asserted
  | held _ hheld => exact .held hheld
  | arrival harrival =>
    refine .cues ?_ ?_ (State.chain_takeArrival _ _ _)
    · rintro p rfl
      cases harrival
    · rintro rfl
      cases harrival
  | service hservice =>
    refine .cues ?_ ?_ (chain_serve _)
    · rintro p rfl
      cases hservice
    · rintro rfl
      cases hservice
  | plain hreset harrival hservice hrunning =>
    cases c
    case powerOnReset straps => exact absurd (.inr ⟨straps, rfl⟩) hreset
    case resetAsserted => exact absurd (.inl rfl) hreset
    case reel | frame | present | lineReset | hold | release => cases harrival
    case lineSync => exact .lineSync
    case fieldSync p => exact .fieldSync p hrunning
    case missingSyncExpiry => exact .expiry hrunning
    case rollCallWindowEnd => exact .windowEnd
    case pixelClock r g b l f p => exact .pixelClock r g b l f p
    case guardComplete heard =>
      exact .cues (by simp) (by simp) (State.chain_guardComplete heard)
    case transmitStart =>
      exact .cues (by simp) (by simp) State.lineWork_transmitter.1.chain
    case transmitAbandon =>
      exact .cues (by simp) (by simp) State.lineWork_transmitter.2.1.chain
    case transmitComplete =>
      exact .cues (by simp) (by simp) State.lineWork_transmitter.2.2.chain
    case deferralYield =>
      exact .cues (by simp) (by simp) (State.LineWork.chain rfl)
    all_goals cases hservice

end Sys2Proof.Machine

/-! What the owner of a request can do to the engine, once for all laws: one constructor for each kind of change, with what the owner's tests have shown. -/

namespace Sys2Proof.Machine

open Safety

/-- The record `r` leaves the table with its entry (R74). -/
def State.clearRecord (r : Scene) (s : State) : State :=
  { s.push (.sceneRemoved r) with
    scenes := removeScene r.start s.scenes
    pool := (s.push (.sceneRemoved r)).pool.release r.slot }

/-- A slot that a grade field may name: an allocated one, or the one that SAME stands for (R71). -/
def State.Nameable (s : State) (same n : Nat) : Prop := s.pool.allocated n = true ∨ n = same

/-- The latches a request names to be cleared (R190). -/
def namedLatches : Request → Option Byte
  | .clearFaults m => some m
  | _ => none

/-- What an owner can leave of the engine. -/
inductive Owned (s : State) (named : Option Byte) : State → Prop
  /-- A refusal or a query. -/
  | same : Owned s named s
  /-- A record is marked (R73). -/
  | marked {r : Scene} {q : Reel} : s.follower.reel = some q → r.start < q.length →
      sceneAt s.scenes r.start = none → s.Nameable (sceneOf s.scenes r.start).slot r.slot →
      1 ≤ r.length → r.length ≤ 63 → s.scenes.length < 256 → Owned s named (s.insertRecord r)
  /-- A record is cleared (R74). -/
  | cleared {r : Scene} : sceneAt s.scenes r.start = some r → r.start ≠ 0 →
      Owned s named (s.clearRecord r)
  /-- A record is set (R75). -/
  | set {r new : Scene} {q : Reel} : s.follower.reel = some q →
      sceneAt s.scenes r.start = some r → new.start = r.start →
      new.origin = r.origin → (r.confirmed = true → new.confirmed = true) →
      s.Nameable r.slot new.slot → 1 ≤ new.length → new.length ≤ 63 →
      Owned s named ((s.push (.sceneChanged r)).changeRecord r new)
  /-- The table and the history are purged (R78, R93). -/
  | purged : Owned s named s.purgeScenes.purgeHistory
  /-- A free slot is allocated (R48). -/
  | allocated {n : Nat} : n < 128 → s.pool.firstFree = n →
      Owned s named (s.setSlot n (some ⟨Grade.flat, 0⟩))
  /-- A slot nobody names is freed (R50). -/
  | dropped {n : Nat} {r : Slot} : n < 128 → n ≠ 0 → s.pool.slot n = some r → r.refs = 0 →
      Owned s named (s.setSlot n none)
  /-- A primary part is written (R54). -/
  | primary {n : Nat} {r : Slot} {p : RGB Primary} : n < 128 → n ≠ 0 → s.pool.slot n = some r →
      PrimaryOk p →
      Owned s named ((s.push (.primaryChanged n r.grade.primary)).writeSlot n
        { r.grade with primary := p })
  /-- A vector list is written (R55, R56). -/
  | vectors {n : Nat} {r : Slot} {vs : List Vec} : n < 128 → n ≠ 0 → s.pool.slot n = some r →
      vs.length ≤ max 6 r.grade.vectors.length → (∀ v ∈ vs, v ∈ r.grade.vectors ∨ VecOk v) →
      Owned s named (s.editVectors n r.grade vs)
  /-- A load starts (R33). -/
  | loadStarted {t : LoadTarget} (m : PointerMode) (start : Nat) : s.loader.state = .idle →
      t ≠ .curve 0 → (∀ n, t = .curve n → n < 16) →
      Owned s named { s with loader := ⟨.filling, some t, s.tableOf t, start % t.size, m, none⟩ }
  /-- Values are loaded (R35). -/
  | loaded {t : LoadTarget} (vs : List Nat) : s.loader.state = .filling →
      s.loader.target = some t →
      Owned s named { s with loader := vs.foldl (Loader.writeValue t) s.loader }
  /-- An install becomes pending (R37). -/
  | installed (a : Option Station) : s.loader.state = .filling →
      Owned s named { s with loader := { s.loader with state := .installPending, requester := a } }
  /-- A load is cancelled (R41). -/
  | cancelled : Owned s named { s.replyCancelled with loader := Loader.idle }
  /-- The report enables are written (R192). -/
  | enables (w : BitVec 10) : Owned s named { s with enables := w }
  /-- The profile is written (R145, R194). -/
  | profile {p : Profile} : (ProfileSound s → ProfileSound { s with profile := p }) →
      p.filmInEffect = s.profile.filmInEffect → Owned s named { s with profile := p }
  /-- The newest entry is undone (R90). -/
  | undone {e : Entry} : s.history.entries.getLast? = some e → Owned s named (s.undoEntry e)
  /-- Latches are cleared (R190). -/
  | latches {m : Byte} : named = some m →
      Owned s named { s with latches := s.latches &&& (~~~m ||| s.standing) }

section
variable {s : State} {named : Option Byte}

/-- A frame is within the reel held exactly where the test of R70 says so. -/
theorem State.reelTest_eq_within {f : Nat} :
    s.reelTest f = .within ↔ ∃ q, s.follower.reel = some q ∧ f < q.length := by
  unfold State.reelTest
  cases s.follower.reel with
  | none => simp
  | some q =>
    by_cases h : q.length ≤ f
    · simp [h]
    · simpa [h] using Nat.not_le.mp h

/-- A grade field names an allocated slot, or stands for SAME (R71). -/
theorem State.nameable_of_gradeNamed {same n : Nat} {grade : Byte}
    (h : s.gradeNamed same grade = some n) : s.Nameable same n := by
  unfold State.gradeNamed at h
  split at h
  next => exact .inr (Option.some.inj h).symm
  next =>
    split at h
    next halloc =>
      obtain rfl := Option.some.inj h
      exact .inl halloc
    next => cases h

/-- A limited dissolve length lies in 1..63 (R71). -/
theorem dissolveLength_eq (len : Byte) : dissolveLength len = max 1 (min 63 len.toNat) := by
  unfold dissolveLength clampNat
  split
  · omega
  · split <;> omega

/-- A record found at a frame starts there. -/
theorem sceneAt_some {t : List Scene} {f : Nat} {r : Scene} (h : sceneAt t f = some r) :
    r ∈ t ∧ r.start = f :=
  ⟨List.mem_of_find?_eq_some h, by simpa using List.find?_some h⟩

/-- Where no record is found none starts. -/
theorem sceneAt_none {t : List Scene} {f : Nat} : sceneAt t f = none ↔ ∀ r ∈ t, r.start ≠ f := by
  simp [sceneAt]

/-- The table has room unless it holds 256 records (R64). -/
theorem scenesFull_eq_false {t : List Scene} : scenesFull t = false ↔ t.length < 256 := by
  rw [scenesFull, Config.scenePlaces, decide_eq_false_iff_not, Nat.not_le]

/-- SCENE MARK refuses, or inserts a record (R72, R73). -/
theorem owned_sceneMark (f : Nat) (g t n : Byte) : Owned s named (sceneMark f g t n s).1 := by
  unfold sceneMark
  split
  next => exact .same
  next => exact .same
  next hreel =>
    obtain ⟨q, hq, hf⟩ := State.reelTest_eq_within.mp hreel
    split
    next => exact .same
    next hfree =>
      split
      next slot trans hslot _ =>
        split
        next => exact .same
        next hroom =>
          refine .marked hq hf ?_ (State.nameable_of_gradeNamed hslot) ?_ ?_ ?_
          · simpa using hfree
          · exact le_of_le_of_eq (Nat.le_max_left _ _) (dissolveLength_eq n).symm
          · exact (dissolveLength_eq n).trans_le (by omega)
          · exact scenesFull_eq_false.mp (by simpa using hroom)
      next => exact .same

/-- SCENE CLEAR refuses, or clears a record (R74). -/
theorem owned_sceneClear (f : Nat) : Owned s named (sceneClear f s).1 := by
  unfold sceneClear
  split
  next => exact .same
  next => exact .same
  next =>
    split
    next => exact .same
    next hzero =>
      split
      next => exact .same
      next r hr =>
        obtain ⟨-, rfl⟩ := sceneAt_some hr
        have hclear : Owned s named (s.clearRecord r) := .cleared hr hzero
        simpa [State.clearRecord] using hclear

/-- SCENE SET refuses, or sets a record (R75). -/
theorem owned_sceneSet (f : Nat) (g t n k : Byte) : Owned s named (sceneSet f g t n k s).1 := by
  unfold sceneSet
  split
  next => exact .same
  next => exact .same
  next hreel =>
    obtain ⟨q, hq, -⟩ := State.reelTest_eq_within.mp hreel
    split
    next => exact .same
    next r hr =>
      obtain ⟨-, rfl⟩ := sceneAt_some hr
      split
      next slot trans hslot _ =>
        split
        next => exact .same
        next =>
          refine .set hq hr rfl rfl (fun h => ?_) (State.nameable_of_gradeNamed hslot) ?_ ?_
          · simp [h]
          · exact le_of_le_of_eq (Nat.le_max_left _ _) (dissolveLength_eq n).symm
          · exact (dissolveLength_eq n).trans_le (by omega)
      next => exact .same

/-- SCENE PURGE refuses, or purges (R78). -/
theorem owned_scenePurge : Owned s named (scenePurge s).1 := by
  unfold scenePurge
  split
  next => exact .same
  next => exact .purged

/-- The queries leave the engine as it is (R60, R79, R80, R193). -/
theorem queries_state (m part port : Byte) (a n p : Nat) :
    (sceneQuery m a s).1 = s ∧ (gradeQuery n part p s).1 = s ∧ (portRead port s).1 = s := by
  refine ⟨?_, ?_, ?_⟩
  · unfold sceneQuery
    dsimp only
    repeat' split
    all_goals rfl
  · unfold gradeQuery
    repeat' split
    all_goals rfl
  · unfold portRead
    split <;> rfl

/-- GRADE NEW refuses, or allocates a slot (R48). -/
theorem owned_gradeNew : Owned s named (gradeNew s).1 := by
  unfold gradeNew
  dsimp only
  split
  next h => exact .allocated h rfl
  next => exact .same

/-- An edit of a slot refuses, or edits an allocated slot of 1..127 (Table 3-4). -/
theorem owned_withEditable {n : Nat} {edit : Slot → State × Answer}
    (h : ∀ r, n < 128 → n ≠ 0 → s.pool.slot n = some r → Owned s named (edit r).1) :
    Owned s named (withEditable n edit s).1 := by
  unfold withEditable
  split
  next => exact .same
  next hlt =>
    split
    next => exact .same
    next h0 =>
      split
      next => exact .same
      next r hslot => exact h r (Nat.not_le.mp hlt) h0 hslot

/-- Primary values as stored lie in their ranges, their curve indices as tested (R53, Table 3-1). -/
theorem primaryOk_stored {p : RGB WirePrimary} (h : p.every (fun c => c.curve.toNat < 16) = true) :
    PrimaryOk (p.map WirePrimary.stored) := by
  have hone : ∀ c : WirePrimary, c.curve.toNat < 16 →
      -512 ≤ c.stored.lift ∧ c.stored.lift ≤ 511 ∧ c.stored.gain ≤ 4095 ∧ c.stored.curve < 16 := by
    intro c hc
    rw [WirePrimary.stored, clampInt_eq (by decide), clampNat_zero]
    dsimp only
    omega
  simp only [RGB.every, Bool.and_eq_true, decide_eq_true_eq] at h
  obtain ⟨⟨hr, hg⟩, hb⟩ := h
  simpa [PrimaryOk, RGB.toList, RGB.map] using ⟨hone p.r hr, hone p.g hg, hone p.b hb⟩

/-- GRADE PRIMARY refuses, or writes a primary part (R54). -/
theorem owned_gradePrimary (n : Nat) (p : RGB WirePrimary) : Owned s named (gradePrimary n p s).1 := by
  unfold gradePrimary
  refine owned_withEditable fun r hlt h0 hslot => ?_
  split
  next h => exact .primary hlt h0 hslot (primaryOk_stored h)
  next => exact .same

/-- A vector as stored lies in its ranges (R53, Table 3-2). -/
theorem vecOk_stored (v : WireVector) : VecOk v.stored := by
  have hbox : ∀ t : RGB (BitVec 12), ∀ a ∈ (t.map (·.toNat)).toList, a ≤ 4095 := by
    intro t a ha
    simp only [RGB.toList, RGB.map, List.mem_cons, List.not_mem_nil, or_false] at ha
    omega
  refine ⟨?_, ?_, ?_, ?_⟩
  · rw [v.stored_box.1]
    exact hbox v.lo
  · rw [v.stored_box.2]
    exact hbox v.hi
  · rw [v.stored_offset]
    intro o ho
    simp only [RGB.toList, RGB.map, List.mem_cons, List.not_mem_nil, or_false] at ho
    omega
  · rw [v.stored_rect]
    intro q hq
    obtain ⟨w, -, rfl⟩ := Option.map_eq_some_iff.mp hq
    exact ⟨Nat.min_le_left _ _, Nat.min_le_left _ _, Nat.min_le_left _ _, Nat.min_le_left _ _⟩

/-- GRADE VECTOR refuses, or writes a vector list (R55). -/
theorem owned_gradeVector (n p : Nat) (v : WireVector) : Owned s named (gradeVector n p v s).1 := by
  unfold gradeVector
  refine owned_withEditable fun r hlt h0 hslot => ?_
  dsimp only
  split
  next => exact .same
  next hbeyond =>
    split
    next => exact .same
    next hfull =>
      refine .vectors hlt h0 hslot ?_ fun x hx => ?_
      · rw [Config.vectorPlaces] at hfull
        split
        · rw [List.length_set]
          exact Nat.le_max_right _ _
        · rw [List.length_append, List.length_singleton]
          omega
      · split at hx
        next =>
          rcases List.mem_or_eq_of_mem_set hx with hx | rfl
          · exact .inl hx
          · exact .inr (vecOk_stored v)
        next =>
          rcases List.mem_append.mp hx with hx | hx
          · exact .inl hx
          · rw [List.mem_singleton.mp hx]
            exact .inr (vecOk_stored v)

/-- GRADE VECTOR DELETE refuses, or writes a vector list (R56). -/
theorem owned_gradeVectorDelete (n p : Nat) : Owned s named (gradeVectorDelete n p s).1 := by
  unfold gradeVectorDelete
  refine owned_withEditable fun r hlt h0 hslot => ?_
  dsimp only
  split
  next => exact .same
  next =>
    exact .vectors hlt h0 hslot
      (le_max_of_le_right (List.length_eraseIdx_le _ _))
      fun x hx => .inl (List.mem_of_mem_eraseIdx hx)

/-- GRADE DROP refuses, or frees a slot (R50). -/
theorem owned_gradeDrop (n : Nat) : Owned s named (gradeDrop n s).1 := by
  unfold gradeDrop
  refine owned_withEditable fun r hlt h0 hslot => ?_
  split
  next => exact .same
  next h => exact .dropped hlt h0 hslot (Nat.eq_zero_of_not_pos h)

/-- A target that LOAD START names is a shading table or one of the sixteen curves (R32). -/
theorem targetOf_curve {kind curve : Byte} {t : LoadTarget} (h : targetOf kind curve = some t) :
    ∀ n, t = .curve n → n < 16 := by
  rintro n rfl
  unfold targetOf at h
  split at h
  next =>
    split at h
    next hlt =>
      cases h
      exact hlt
    next => cases h
  next =>
    split at h
    next => cases h
    next => split at h <;> cases h

/-- LOAD START refuses, or starts a load (R33). -/
theorem owned_loadStart (kind curve mode : Byte) (start : Nat) :
    Owned s named (loadStart kind curve start mode s).1 := by
  unfold loadStart
  split
  next => exact .same
  next hidle =>
    split
    next t m ht _ =>
      split
      next => exact .same
      next h0 => exact .loadStarted m start (not_not.mp hidle) h0 (targetOf_curve ht)
    next => exact .same

/-- LOAD DATA refuses, or loads values (R35). -/
theorem owned_loadData (vs : List Nat) : Owned s named (loadData vs s).1 := by
  unfold loadData
  split
  next t hstate htarget => exact .loaded vs hstate htarget
  next => exact .same
  next => exact .same

/-- LOAD INSTALL refuses, or makes the install pending (R37). -/
theorem owned_loadInstall (src dst : Station) : Owned s named (loadInstall src dst s).1 := by
  unfold loadInstall
  split
  next => exact .same
  next => exact .same
  next h => exact .installed _ h

/-- What holds of all three channels holds of each. -/
theorem RGB.forall_mem_toList {α : Type} {P : α → Prop} {x : RGB α} :
    (∀ a ∈ x.toList, P a) ↔ P x.r ∧ P x.g ∧ P x.b := by
  simp [RGB.toList]

/-- A matrix row as stored keeps the profile's ranges (R194). -/
theorem owned_writeMatrixRow (c : Channel) (k : RGB (BitVec 16)) :
    Owned s named (writeMatrixRow c k s).1 := by
  refine .profile (fun h => ?_) rfl
  obtain ⟨hmatrix, hrest⟩ := h
  refine ⟨?_, hrest⟩
  have hrow : ∀ m ∈ (k.map (fun a => clampInt (-512) 511 a.toInt)).toList, -512 ≤ m ∧ m ≤ 511 := by
    intro m hm
    simp only [RGB.toList, RGB.map, List.mem_cons, List.not_mem_nil, or_false] at hm
    have hclamp := clampInt_eq (lo := -512) (hi := 511) (by decide)
    rw [hclamp, hclamp, hclamp] at hm
    omega
  rw [RGB.forall_mem_toList] at hmatrix ⊢
  obtain ⟨hr, hg, hb⟩ := hmatrix
  cases c with
  | r => exact ⟨hrow, hg, hb⟩
  | g => exact ⟨hr, hrow, hb⟩
  | b => exact ⟨hr, hg, hrow⟩

/-- The cut threshold as stored keeps the profile's ranges (R145). -/
theorem owned_writeThreshold (v : Nat) : Owned s named (writeThreshold v s).1 := by
  refine .profile (fun h => ?_) rfl
  obtain ⟨hmatrix, -, hrest⟩ := h
  refine ⟨hmatrix, ?_, hrest⟩
  exact (clampNat_zero 1024 v).trans_le (Nat.min_le_left _ _)

/-- A number limited to 1..255 (R145). -/
theorem clampNat_one (v : Nat) : clampNat 1 255 v = max 1 (min 255 v) := by
  unfold clampNat
  split
  · omega
  · split <;> omega

/-- The minimum scene length as stored keeps the profile's ranges (R145). -/
theorem owned_writeMinScene (v : Nat) : Owned s named (writeMinScene v s).1 := by
  refine .profile (fun h => ?_) rfl
  obtain ⟨hmatrix, hthreshold, -⟩ := h
  refine ⟨hmatrix, hthreshold, ?_⟩
  dsimp only
  rw [clampNat_one]
  omega

/-- The film mode requested is no range of the profile's (R194). -/
theorem owned_writeFilmMode (m : Byte) : Owned s named (writeFilmMode m s).1 := by
  unfold writeFilmMode
  split
  next => exact .profile id rfl
  next => exact .same

/-- PORT WRITE refuses, or writes the report enables or the profile (R192 to R194). -/
theorem owned_portWrite (p : Byte) (d : List Byte) : Owned s named (portWrite p d s).1 := by
  unfold portWrite
  split
  next => exact .enables _
  next => exact owned_writeFilmMode _
  next => exact owned_writeMatrixRow _ _
  next => exact owned_writeMatrixRow _ _
  next => exact owned_writeMatrixRow _ _
  next => exact owned_writeThreshold _
  next => exact owned_writeMinScene _
  next =>
    split
    next => exact .same
    next => split <;> exact .same

/-- UNDO refuses, or undoes the newest entry (R89, R90). -/
theorem owned_undo : Owned s named (undo s).1 := by
  unfold undo
  split
  next => exact .same
  next =>
    split
    next => exact .same
    next e he => exact .undone he

/-- What the owner of a request does is one of the changes an owner can make. -/
theorem ownerOf_owned (c : Cue) : Owned s (namedLatches c.body) (ownerOf c s).1 := by
  have hqueries := @queries_state s
  obtain ⟨src, dst, body⟩ := c
  cases body with
  | sceneMark f g t n => exact owned_sceneMark _ g t n
  | sceneClear f => exact owned_sceneClear _
  | sceneSet f g t n k => exact owned_sceneSet _ g t n k
  | scenePurge => exact owned_scenePurge
  | sceneQuery m a => exact hqueries m 0 0 a.toNat 0 0 |>.1.symm ▸ .same
  | gradeNew => exact owned_gradeNew
  | gradePrimary n p => exact owned_gradePrimary _ p
  | gradeVector n p v => exact owned_gradeVector _ _ v
  | gradeVectorDelete n p => exact owned_gradeVectorDelete _ _
  | gradeDrop n => exact owned_gradeDrop _
  | gradeQuery n t p => exact hqueries 0 t 0 0 n.toNat p.toNat |>.2.1.symm ▸ .same
  | loadStart k n a m => exact owned_loadStart k n m _
  | loadData vs => exact owned_loadData _
  | loadInstall => exact owned_loadInstall _ _
  | loadCancel => exact .cancelled
  | portRead p => exact hqueries 0 0 p 0 0 0 |>.2.2.symm ▸ .same
  | portWrite p d => exact owned_portWrite p d
  | undo => exact owned_undo
  | clearFaults m => exact .latches rfl
  | cut r f m => exact .same

end
end Sys2Proof.Machine

/-! The scene table in start-frame order (R64), what keeps laws L1 and L2, and the history that UNDO walks back through (R82, R88). -/

namespace Sys2Proof.Machine

open Safety

/-! ## The table in start-frame order -/

/-- The table is in start-frame order, with no two records at one frame (R64). -/
abbrev Sorted (t : List Scene) : Prop := t.Pairwise (fun a b => a.start < b.start)

section
variable {t u : List Scene} {f : Nat} {r x new : Scene}

/-- In the ordered table a start frame names one record. -/
theorem eq_of_start_eq (hs : Sorted t) (hx : x ∈ t) (hr : r ∈ t) (h : x.start = r.start) :
    x = r := by
  have hnodup : (t.map (·.start)).Nodup := List.pairwise_map.mpr (hs.imp Nat.ne_of_lt)
  exact List.inj_on_of_nodup_map hnodup hx hr h

/-- No record stands twice in the ordered table. -/
theorem nodup_of_sorted (hs : Sorted t) : t.Nodup :=
  hs.imp fun h heq => absurd (heq ▸ h) (Nat.lt_irrefl _)

/-- Two ordered tables with the same records are one. -/
theorem sorted_ext (ht : Sorted t) (hu : Sorted u) (h : ∀ x, x ∈ t ↔ x ∈ u) : t = u := by
  have hperm := (List.perm_ext_iff_of_nodup (nodup_of_sorted ht) (nodup_of_sorted hu)).mpr h
  exact hperm.eq_of_pairwise (fun a b _ _ hab hba => absurd (hab.trans hba) (Nat.lt_irrefl _)) ht hu

/-- A record is in the table after it has taken its place, and the others stay (R64). -/
theorem mem_insertScene (hfree : ∀ x ∈ t, x.start ≠ r.start) :
    x ∈ insertScene r t ↔ x = r ∨ x ∈ t := by
  simp only [insertScene, List.mem_append, List.mem_filter, List.mem_cons, decide_eq_true_eq]
  constructor
  · rintro (⟨hx, -⟩ | rfl | ⟨hx, -⟩)
    · exact .inr hx
    · exact .inl rfl
    · exact .inr hx
  · rintro (rfl | hx)
    · exact .inr (.inl rfl)
    · rcases Nat.lt_or_gt_of_ne (hfree x hx) with h | h
      · exact .inl ⟨hx, h⟩
      · exact .inr (.inr ⟨hx, h⟩)

/-- The records left after a removal (R64). -/
theorem mem_removeScene : x ∈ removeScene f t ↔ x ∈ t ∧ x.start ≠ f := by
  simp [removeScene]

/-- The records after one was replaced: the new one, and those at other frames (R75). -/
theorem mem_replaceScene (hr : ∃ x ∈ t, x.start = r.start) :
    x ∈ replaceScene r t ↔ x = r ∨ (x ∈ t ∧ x.start ≠ r.start) := by
  simp only [replaceScene, List.mem_map]
  constructor
  · rintro ⟨y, hy, rfl⟩
    split
    next => exact .inl rfl
    next h => exact .inr ⟨hy, h⟩
  · rintro (rfl | ⟨hx, h⟩)
    · obtain ⟨y, hy, hstart⟩ := hr
      exact ⟨y, hy, if_pos hstart⟩
    · exact ⟨x, hx, if_neg h⟩

/-- The order is kept as a record takes its place (R64). -/
theorem sorted_insertScene (hs : Sorted t) (r : Scene) : Sorted (insertScene r t) := by
  unfold insertScene Sorted
  rw [List.pairwise_append, List.pairwise_cons]
  refine ⟨hs.filter _, ⟨fun x hx => ?_, hs.filter _⟩, fun a ha b hb => ?_⟩
  · simpa using (List.mem_filter.mp hx).2
  · have har : a.start < r.start := by simpa using (List.mem_filter.mp ha).2
    rcases List.mem_cons.mp hb with rfl | hb
    · exact har
    · exact har.trans (by simpa using (List.mem_filter.mp hb).2)

/-- The order is kept as a record leaves (R64). -/
theorem sorted_removeScene (hs : Sorted t) (f : Nat) : Sorted (removeScene f t) := hs.filter _

/-- The order is kept as a record is replaced at its frame (R75). -/
theorem sorted_replaceScene (hs : Sorted t) (r : Scene) : Sorted (replaceScene r t) := by
  have hstart : ∀ x : Scene, (if x.start = r.start then r else x).start = x.start := by
    intro x
    split
    next h => exact h.symm
    next => rfl
  refine List.pairwise_map.mpr (hs.imp fun h => ?_)
  rwa [hstart, hstart]

/-- Removing what has just taken its place restores the table (R82). -/
theorem removeScene_insertScene (hs : Sorted t) (hfree : ∀ x ∈ t, x.start ≠ r.start) :
    removeScene r.start (insertScene r t) = t := by
  refine sorted_ext (sorted_removeScene (sorted_insertScene hs r) _) hs fun x => ?_
  rw [mem_removeScene, mem_insertScene hfree]
  constructor
  · rintro ⟨rfl | hx, hne⟩
    · exact absurd rfl hne
    · exact hx
  · exact fun hx => ⟨.inr hx, hfree x hx⟩

/-- No record is left at a frame from which one was removed. -/
theorem start_ne_of_mem_removeScene (hx : x ∈ removeScene f t) : x.start ≠ f :=
  (mem_removeScene.mp hx).2

/-- A record that has just left takes its old place again (R82). -/
theorem insertScene_removeScene (hs : Sorted t) (hr : r ∈ t) :
    insertScene r (removeScene r.start t) = t := by
  refine sorted_ext (sorted_insertScene (sorted_removeScene hs _) r) hs fun x => ?_
  rw [mem_insertScene fun x hx => start_ne_of_mem_removeScene hx, mem_removeScene]
  constructor
  · rintro (rfl | ⟨hx, -⟩)
    · exact hr
    · exact hx
  · intro hx
    by_cases h : x.start = r.start
    · exact .inl (eq_of_start_eq hs hx hr h)
    · exact .inr ⟨hx, h⟩

/-- A replaced record that is put back restores the table (R82). -/
theorem replaceScene_replaceScene (hs : Sorted t) (hr : r ∈ t) (hstart : new.start = r.start) :
    replaceScene r (replaceScene new t) = t := by
  refine sorted_ext (sorted_replaceScene (sorted_replaceScene hs _) r) hs fun x => ?_
  have hnew : new ∈ replaceScene new t :=
    (mem_replaceScene ⟨r, hr, hstart.symm⟩).mpr (.inl rfl)
  rw [mem_replaceScene ⟨new, hnew, hstart⟩, mem_replaceScene ⟨r, hr, hstart.symm⟩]
  constructor
  · rintro (rfl | ⟨rfl | ⟨hx, -⟩, hne⟩)
    · exact hr
    · exact absurd hstart hne
    · exact hx
  · intro hx
    by_cases h : x.start = r.start
    · exact .inl (eq_of_start_eq hs hx hr h)
    · exact .inr ⟨.inr ⟨hx, hstart ▸ h⟩, h⟩

/-- A record that takes its place is one record more. -/
theorem insertScene_perm (hs : Sorted t) (hfree : ∀ x ∈ t, x.start ≠ r.start) :
    (insertScene r t).Perm (r :: t) := by
  refine (List.perm_ext_iff_of_nodup (nodup_of_sorted (sorted_insertScene hs r)) ?_).mpr fun x => ?_
  · exact List.nodup_cons.mpr ⟨fun hr => hfree r hr rfl, nodup_of_sorted hs⟩
  · rw [mem_insertScene hfree, List.mem_cons]

/-- A record that leaves is one record fewer. -/
theorem perm_removeScene (hs : Sorted t) (hr : r ∈ t) :
    t.Perm (r :: removeScene r.start t) := by
  have hperm := insertScene_perm (r := r) (sorted_removeScene hs r.start)
    fun x hx => start_ne_of_mem_removeScene hx
  rwa [insertScene_removeScene hs hr] at hperm

/-- A record that is replaced is one that leaves and one that joins. -/
theorem replaceScene_perm (hs : Sorted t) (hr : r ∈ t) (hstart : new.start = r.start) :
    (replaceScene new t).Perm (new :: removeScene r.start t) := by
  have hnew : new ∈ replaceScene new t :=
    (mem_replaceScene ⟨r, hr, hstart.symm⟩).mpr (.inl rfl)
  have hrest : removeScene new.start (replaceScene new t) = removeScene r.start t := by
    refine sorted_ext (sorted_removeScene (sorted_replaceScene hs new) _)
      (sorted_removeScene hs _) fun x => ?_
    rw [mem_removeScene, mem_replaceScene ⟨r, hr, hstart.symm⟩, mem_removeScene, hstart]
    constructor
    · rintro ⟨rfl | hx, hne⟩
      · exact absurd hstart hne
      · exact hx
    · exact fun hx => ⟨.inr hx, hx.2⟩
  have hperm := perm_removeScene (sorted_replaceScene hs new) hnew
  rwa [hrest] at hperm

/-- The table is one longer after a record has taken its place. -/
theorem length_insertScene (hs : Sorted t) (hfree : ∀ x ∈ t, x.start ≠ r.start) :
    (insertScene r t).length = t.length + 1 := (insertScene_perm hs hfree).length_eq

/-- A record that starts at a frame of the ordered table is the one found there. -/
theorem sceneAt_of_mem (hs : Sorted t) (hr : r ∈ t) : sceneAt t r.start = some r := by
  cases h : sceneAt t r.start with
  | none => exact absurd rfl (sceneAt_none.mp h r hr)
  | some x =>
    obtain ⟨hx, hstart⟩ := sceneAt_some h
    rw [eq_of_start_eq hs hx hr hstart]

end

/-! ## Laws L1 and L2 of one table -/

section
variable {reel : Option Reel} {t : List Scene} {r new : Scene} {f : Nat}

/-- Some record of a sound table starts at frame 0 (R66). -/
theorem tableOk_head (h : TableOk reel t) : ∃ x ∈ t, x.start = 0 := by
  obtain ⟨-, ⟨x, hx, hstart, -⟩, -⟩ := h
  exact ⟨x, List.mem_of_head? hx, hstart⟩

/-- Where the first record of an ordered table starts at 0, it is the head. -/
theorem head_of_zero (hs : Sorted t) (hr : r ∈ t) (hzero : r.start = 0) : t.head? = some r := by
  cases t with
  | nil => cases hr
  | cons a t =>
    rcases List.mem_cons.mp hr with rfl | hmem
    · rfl
    · have hlt := (List.pairwise_cons.mp hs).1 r hmem
      omega

/-- Law L2 of a table: what is to be shown of another one, its head given by a record at frame 0. -/
theorem tableOk_of {u : List Scene} (hlength : u.length ≤ 256) (hs : Sorted u)
    (hhead : ∃ x ∈ u, x.start = 0 ∧ x.origin = .console ∧ x.confirmed = true)
    (hbounds : ∀ x ∈ u, 1 ≤ x.length ∧ x.length ≤ 63)
    (hreel : ∀ q ∈ reel, ∀ x ∈ u, x.start < q.length)
    (hnone : reel = none → u = [Scene.head]) : TableOk reel u := by
  obtain ⟨x, hx, hzero, hrest⟩ := hhead
  exact ⟨hlength, ⟨x, head_of_zero hs hx hzero, hzero, hrest⟩, hs, hbounds, hreel, hnone⟩

/-- The head scene of a sound table (R66). -/
theorem tableOk_console (h : TableOk reel t) :
    ∃ x ∈ t, x.start = 0 ∧ x.origin = .console ∧ x.confirmed = true := by
  obtain ⟨-, ⟨x, hx, hrest⟩, -⟩ := h
  exact ⟨x, List.mem_of_head? hx, hrest⟩

/-- The head scene alone is a sound table of any reel (R68). -/
theorem tableOk_initial (hreel : ∀ q ∈ reel, 0 < q.length) : TableOk reel [Scene.head] := by
  refine tableOk_of (by simp) (by simp) ⟨Scene.head, by simp, rfl, rfl, rfl⟩ ?_ ?_ fun _ => rfl
  · simp [Scene.head]
  · intro q hq x hx
    rw [List.mem_singleton.mp hx]
    exact hreel q hq

/-- A record within the reel joins a sound table that has room (R73, R81). -/
theorem tableOk_insert {q : Reel} (h : TableOk (some q) t) (hroom : t.length < 256)
    (hwithin : r.start < q.length) (hfree : ∀ x ∈ t, x.start ≠ r.start)
    (hlow : 1 ≤ r.length) (hhigh : r.length ≤ 63) : TableOk (some q) (insertScene r t) := by
  have hconsole := tableOk_console h
  obtain ⟨-, -, hs, hbounds, hreel, -⟩ := h
  have hmem := fun x => mem_insertScene (x := x) hfree
  refine tableOk_of ?_ (sorted_insertScene hs r) ?_ ?_ ?_ nofun
  · rw [length_insertScene hs hfree]
    exact hroom
  · obtain ⟨x, hx, hrest⟩ := hconsole
    exact ⟨x, (hmem x).mpr (.inr hx), hrest⟩
  · intro x hx
    rcases (hmem x).mp hx with rfl | hx
    · exact ⟨hlow, hhigh⟩
    · exact hbounds x hx
  · intro p hp x hx
    obtain rfl := Option.some.inj hp
    rcases (hmem x).mp hx with rfl | hx
    · exact hwithin
    · exact hreel q rfl x hx

/-- Part of a sound table that keeps every confirmed CONSOLE record at frame 0 is sound (R74, R78). -/
theorem tableOk_filter {p : Scene → Bool} (h : TableOk reel t)
    (hkeep : ∀ x ∈ t, x.start = 0 → x.origin = .console → x.confirmed = true → p x = true) :
    TableOk reel (t.filter p) := by
  have hconsole := tableOk_console h
  obtain ⟨hlength, -, hs, hbounds, hreel, hnone⟩ := h
  obtain ⟨x, hx, hzero, horigin, hconfirmed⟩ := hconsole
  have hmem : x ∈ t.filter p := List.mem_filter.mpr ⟨hx, hkeep x hx hzero horigin hconfirmed⟩
  refine tableOk_of ((List.length_filter_le p t).trans hlength) (hs.filter p)
    ⟨x, hmem, hzero, horigin, hconfirmed⟩ (fun y hy => hbounds y (List.mem_of_mem_filter hy))
    (fun q hq y hy => hreel q hq y (List.mem_of_mem_filter hy)) fun hn => ?_
  have ht := hnone hn
  subst ht
  obtain rfl := List.mem_singleton.mp hx
  exact List.filter_eq_self.mpr fun y hy => by
    rw [List.mem_singleton.mp hy]
    exact hkeep _ hx hzero horigin hconfirmed

/-- A record of a sound table is replaced at its frame, its origin kept and its confirmation not lost (R75, R76). -/
theorem tableOk_replace {q : Reel} (h : TableOk (some q) t) (hr : r ∈ t)
    (hstart : new.start = r.start) (horigin : new.origin = r.origin)
    (hconfirmed : r.confirmed = true → new.confirmed = true)
    (hlow : 1 ≤ new.length) (hhigh : new.length ≤ 63) :
    TableOk (some q) (replaceScene new t) := by
  have hconsole := tableOk_console h
  obtain ⟨hlength, -, hs, hbounds, hreel, -⟩ := h
  have hmem := fun x => mem_replaceScene (x := x) ⟨r, hr, hstart.symm⟩
  refine tableOk_of ?_ (sorted_replaceScene hs new) ?_ ?_ ?_ nofun
  · rwa [replaceScene, List.length_map]
  · obtain ⟨x, hx, hzero, hxorigin, hxconfirmed⟩ := hconsole
    by_cases heq : x.start = new.start
    · obtain rfl := eq_of_start_eq hs hx hr (heq.trans hstart)
      exact ⟨new, (hmem new).mpr (.inl rfl), heq ▸ hzero, horigin.trans hxorigin,
        hconfirmed hxconfirmed⟩
    · exact ⟨x, (hmem x).mpr (.inr ⟨hx, heq⟩), hzero, hxorigin, hxconfirmed⟩
  · intro x hx
    rcases (hmem x).mp hx with rfl | ⟨hx, -⟩
    · exact ⟨hlow, hhigh⟩
    · exact hbounds x hx
  · intro p hp x hx
    obtain rfl := Option.some.inj hp
    rcases (hmem x).mp hx with rfl | ⟨hx, -⟩
    · exact hstart ▸ hreel q rfl r hr
    · exact hreel q rfl x hx

end

/-! ## The walk back through the history -/

section
variable {reel : Option Reel} {es : List Entry} {e : Entry} {t : List Scene}

/-- Every table that the walk back begins at is sound. -/
theorem tableOk_of_reverts (h : reverts reel es t = true) : TableOk reel t := by
  cases es with
  | nil => exact of_decide_eq_true h
  | cons e es =>
    simp only [reverts, Bool.and_eq_true, decide_eq_true_eq] at h
    exact h.1.1

/-- One entry more, at the newest end, is walked back through first. -/
theorem reverts_cons : reverts reel (e :: es) t = true ↔
    TableOk reel t ∧ entryFits e t = true ∧ reverts reel es (revertTable e t) = true := by
  simp only [reverts, Bool.and_eq_true, decide_eq_true_eq, and_assoc]

/-- The walk back may stop before the oldest entry (R87). -/
theorem reverts_of_append {old : List Entry} (h : reverts reel (es ++ old) t = true) :
    reverts reel es t = true := by
  induction es generalizing t with
  | nil => exact decide_eq_true (tableOk_of_reverts h)
  | cons e es ih =>
    obtain ⟨hok, hfits, hrest⟩ := reverts_cons.mp h
    exact reverts_cons.mpr ⟨hok, hfits, ih hrest⟩

end

/-- The laws of table and history, the history holding at most `k` entries: law L4 for 16 (L1, L2, L4). -/
abbrev ScenesKept (k : Nat) (s : State) : Prop :=
  ScenesSound s ∧ 16 ≤ k ∧ s.history.entries.length ≤ k

section
variable {s t : State} {e : Entry} {k : Nat}

/-- The table of a sound state is sound. -/
theorem tableOk_of_scenesSound (h : ScenesSound s) : TableOk s.follower.reel s.scenes :=
  tableOk_of_reverts h.2.1

/-- The laws of table and history speak of reel, table and history alone. -/
theorem scenesKept_congr (h : ScenesKept k s) (hreel : t.follower.reel = s.follower.reel)
    (hscenes : t.scenes = s.scenes) (hhistory : t.history = s.history) : ScenesKept k t := by
  unfold ScenesKept ScenesSound at h ⊢
  rwa [hreel, hscenes, hhistory]

/-- An edit that leaves a sound table, and whose entry restores the table before it, keeps the laws (R82, R87). -/
theorem scenesKept_of_pushed (h : ScenesKept k s) (hreel : t.follower.reel = s.follower.reel)
    (hpushed : Pushed e s t) (hok : TableOk s.follower.reel t.scenes)
    (hfits : entryFits e t.scenes = true) (hback : revertTable e t.scenes = s.scenes) :
    ScenesKept k t := by
  obtain ⟨⟨hlength, hreverts, hcomplete⟩, hk, hbounded⟩ := h
  unfold Pushed at hpushed
  split at hpushed
  next hroom =>
    refine ⟨⟨hreel ▸ hlength, ?_, ?_⟩, ?_⟩
    · rw [hpushed, hreel, List.reverse_append]
      exact reverts_cons.mpr ⟨hok, hfits, hback ▸ hreverts⟩
    · rw [hpushed, List.reverse_append]
      intro hflag
      exact (congrArg (undoneTable s.history.entries.reverse) hback).trans (hcomplete hflag)
    · rw [hpushed, List.length_append]
      exact ⟨hk, hroom.trans_le hk⟩
  next hfull =>
    refine ⟨⟨hreel ▸ hlength, ?_, ?_⟩, ?_⟩
    · rw [hpushed, hreel, List.reverse_append]
      refine reverts_cons.mpr ⟨hok, hfits, ?_⟩
      rw [hback]
      cases hentries : s.history.entries with
      | nil => simp [hentries] at hfull
      | cons old rest =>
        rw [hentries, List.reverse_cons] at hreverts
        exact reverts_of_append hreverts
    · rw [hpushed]
      nofun
    · rw [hpushed, List.length_append, List.length_tail, List.length_singleton]
      omega

/-- A record within the reel that is inserted keeps the laws (R73, R81). -/
theorem scenesKept_insertRecord {r : Scene} {q : Reel} (h : ScenesKept k s)
    (hreel : s.follower.reel = some q) (hwithin : r.start < q.length)
    (hfree : sceneAt s.scenes r.start = none) (hlow : 1 ≤ r.length) (hhigh : r.length ≤ 63)
    (hroom : s.scenes.length < 256) : ScenesKept k (s.insertRecord r) := by
  have hok := tableOk_of_scenesSound h.1
  have hnone := sceneAt_none.mp hfree
  have hscenes : (s.insertRecord r).scenes = insertScene r s.scenes := by
    simp [State.insertRecord]
  have hs : Sorted s.scenes := hok.2.2.1
  refine scenesKept_of_pushed h (by simp) (State.push_pushed (.sceneInserted r.start)) ?_ ?_ ?_
  · rw [hscenes, hreel]
    rw [hreel] at hok
    exact tableOk_insert hok hroom hwithin hnone hlow hhigh
  · obtain ⟨x, hx, hzero⟩ := tableOk_head hok
    have hne : r.start ≠ 0 := fun hr => hnone x hx (hzero.trans hr.symm)
    rw [hscenes, entryFits, Bool.and_eq_true, bne_iff_ne, List.any_eq_true]
    exact ⟨hne, r, (mem_insertScene hnone).mpr (.inl rfl), beq_self_eq_true _⟩
  · rw [hscenes]
    exact removeScene_insertScene hs hnone

/-- A record that is cleared keeps the laws (R74). -/
theorem scenesKept_clearRecord {r : Scene} (h : ScenesKept k s)
    (hr : sceneAt s.scenes r.start = some r) (hzero : r.start ≠ 0) :
    ScenesKept k (s.clearRecord r) := by
  have hok := tableOk_of_scenesSound h.1
  have hs : Sorted s.scenes := hok.2.2.1
  obtain ⟨hmem, -⟩ := sceneAt_some hr
  refine scenesKept_of_pushed (e := .sceneRemoved r) h (by simp [State.clearRecord])
    (State.push_pushed _) ?_ ?_ ?_
  · refine tableOk_filter hok fun x hx hx0 _ _ => ?_
    rw [bne_iff_ne]
    exact fun heq => hzero (heq ▸ hx0)
  · rw [entryFits, Bool.and_eq_true, bne_iff_ne, Bool.not_eq_true', List.any_eq_false]
    exact ⟨hzero, fun x hx => by simpa using start_ne_of_mem_removeScene hx⟩
  · exact insertScene_removeScene hs hmem

/-- A record that is set keeps the laws (R75, R76). -/
theorem scenesKept_set {r new : Scene} {q : Reel} (h : ScenesKept k s)
    (hreel : s.follower.reel = some q) (hr : sceneAt s.scenes r.start = some r)
    (hstart : new.start = r.start) (horigin : new.origin = r.origin)
    (hconfirmed : r.confirmed = true → new.confirmed = true)
    (hlow : 1 ≤ new.length) (hhigh : new.length ≤ 63) :
    ScenesKept k ((s.push (.sceneChanged r)).changeRecord r new) := by
  have hok := tableOk_of_scenesSound h.1
  have hs : Sorted s.scenes := hok.2.2.1
  obtain ⟨hmem, -⟩ := sceneAt_some hr
  have hscenes : ((s.push (.sceneChanged r)).changeRecord r new).scenes =
      replaceScene new s.scenes := by simp
  refine scenesKept_of_pushed (e := .sceneChanged r) h (by simp) (State.push_pushed _) ?_ ?_ ?_
  · rw [hscenes, hreel]
    rw [hreel] at hok
    exact tableOk_replace hok hmem hstart horigin hconfirmed hlow hhigh
  · rw [hscenes, entryFits, List.any_eq_true]
    refine ⟨new, (mem_replaceScene ⟨r, hmem, hstart.symm⟩).mpr (.inl rfl), ?_⟩
    rw [Bool.and_eq_true, beq_iff_eq, beq_iff_eq]
    exact ⟨hstart, horigin⟩
  · rw [hscenes]
    exact replaceScene_replaceScene hs hmem hstart

/-- A purge keeps the laws: the head scene is confirmed, and the history ends (R78, R93). -/
theorem scenesKept_purge (h : ScenesKept k s) : ScenesKept k s.purgeScenes.purgeHistory := by
  have hok := tableOk_of_scenesSound h.1
  obtain ⟨⟨hlength, -, hcomplete⟩, hk, -⟩ := h
  have hpurged : TableOk s.follower.reel (s.scenes.filter (·.confirmed)) :=
    tableOk_filter hok fun _ _ _ _ hconfirmed => hconfirmed
  refine ⟨⟨hlength, decide_eq_true hpurged, fun hflag => ?_⟩, hk, Nat.zero_le _⟩
  obtain ⟨hflag, hempty⟩ := Bool.and_eq_true_iff.mp hflag
  have hentries : s.history.entries = [] := List.isEmpty_iff.mp hempty
  have hhead : s.scenes = [Scene.head] := by simpa [hentries, undoneTable] using hcomplete hflag
  simp [undoneTable, hhead, Scene.head]

/-- The table after an entry that fits is reverted (R82). -/
theorem State.revert_scenes (hfits : entryFits e s.scenes = true) :
    (s.revert e).scenes = revertTable e s.scenes := by
  cases e with
  | sceneInserted f =>
    rw [entryFits, Bool.and_eq_true, List.any_eq_true] at hfits
    obtain ⟨-, r, hr, hstart⟩ := hfits
    cases hfound : sceneAt s.scenes f with
    | none => exact absurd (beq_iff_eq.mp hstart) (sceneAt_none.mp hfound r hr)
    | some x => simp only [State.revert, hfound, revertTable]
  | sceneRemoved r => rfl
  | sceneChanged r =>
    rw [entryFits, List.any_eq_true] at hfits
    obtain ⟨x, hx, hxr⟩ := hfits
    rw [Bool.and_eq_true, beq_iff_eq] at hxr
    cases hfound : sceneAt s.scenes r.start with
    | none => exact absurd hxr.1 (sceneAt_none.mp hfound x hx)
    | some x => simp only [State.revert, hfound, State.changeRecord_fields, revertTable]
  | primaryChanged n p => rfl
  | vectorsChanged n vs => rfl

/-- A revert leaves the history to the UNDO that makes it, and the follower. -/
theorem State.revert_history (e : Entry) :
    (s.revert e).history = s.history ∧ (s.revert e).follower = s.follower := by
  unfold State.revert
  split
  next => split <;> exact ⟨rfl, rfl⟩
  next => exact ⟨rfl, rfl⟩
  next => split <;> exact ⟨rfl, rfl⟩
  next => exact ⟨rfl, rfl⟩
  next => exact ⟨rfl, rfl⟩

/-- A history with a newest entry is the older ones and that one. -/
theorem entries_eq_of_getLast (h : s.history.entries.getLast? = some e) :
    s.history.entries = s.history.entries.dropLast ++ [e] :=
  (List.dropLast_append_getLast? e h).symm

/-- The newest entry of a sound history fits the table, and the walk back goes on from the reverted one (R82). -/
theorem reverts_newest (h : ScenesSound s) (hlast : s.history.entries.getLast? = some e) :
    entryFits e s.scenes = true ∧ reverts s.follower.reel s.history.entries.dropLast.reverse
      (revertTable e s.scenes) = true := by
  have hreverts := h.2.1
  rw [entries_eq_of_getLast hlast, List.reverse_append] at hreverts
  obtain ⟨-, hfits, hrest⟩ := reverts_cons.mp hreverts
  exact ⟨hfits, hrest⟩

/-- What an UNDO leaves of table, history and follower (R82, R90). -/
theorem State.undoEntry_scenes (h : ScenesSound s)
    (hlast : s.history.entries.getLast? = some e) :
    (s.undoEntry e).scenes = revertTable e s.scenes ∧
    (s.undoEntry e).history = ⟨s.history.entries.dropLast, s.history.complete⟩ ∧
    (s.undoEntry e).follower = s.follower := by
  have hfits := (reverts_newest h hlast).1
  unfold State.undoEntry
  dsimp only
  refine ⟨State.revert_scenes hfits, (State.revert_history e).1, (State.revert_history e).2⟩

/-- An UNDO keeps the laws: it takes one step of the walk back (R82, R88). -/
theorem scenesKept_undoEntry (h : ScenesKept k s) (hlast : s.history.entries.getLast? = some e) :
    ScenesKept k (s.undoEntry e) := by
  obtain ⟨hscenes, hhistory, hfollower⟩ := State.undoEntry_scenes h.1 hlast
  obtain ⟨-, hrest⟩ := reverts_newest h.1 hlast
  obtain ⟨⟨hlength, -, hcomplete⟩, hk, hbounded⟩ := h
  refine ⟨⟨hfollower ▸ hlength, ?_, ?_⟩, ?_⟩
  · rwa [hscenes, hhistory, hfollower]
  · rw [hscenes, hhistory]
    intro hflag
    have hundone := hcomplete hflag
    rwa [entries_eq_of_getLast hlast, List.reverse_append] at hundone
  · rw [hhistory, List.length_dropLast]
    exact ⟨hk, (Nat.sub_le _ _).trans hbounded⟩

/-- A grade edit keeps the laws: its entry leaves the table as it is (R82). -/
theorem scenesKept_gradeEdit (h : ScenesKept k s)
    (hentry : ∀ u, revertTable e u = u ∧ entryFits e u = true) (n : Nat) (g : Grade) :
    ScenesKept k ((s.push e).writeSlot n g) := by
  have hok := tableOk_of_scenesSound h.1
  have hscenes : ((s.push e).writeSlot n g).scenes = s.scenes := by simp
  exact scenesKept_of_pushed h (by simp) (State.push_pushed e) (hscenes ▸ hok) (hentry _).2
    (hscenes ▸ (hentry _).1)

/-- What an owner does keeps the laws of table and history. -/
theorem Owned.scenesKept (hs : ScenesKept k s) {named : Option Byte} (h : Owned s named t) : ScenesKept k t := by
  cases h with
  | same => exact hs
  | marked hreel hwithin hfree _ hlow hhigh hroom =>
    exact scenesKept_insertRecord hs hreel hwithin hfree hlow hhigh hroom
  | cleared hr hzero => exact scenesKept_clearRecord hs hr hzero
  | set hreel hr hstart horigin hconfirmed _ hlow hhigh =>
    exact scenesKept_set hs hreel hr hstart horigin hconfirmed hlow hhigh
  | purged => exact scenesKept_purge hs
  | primary => exact scenesKept_gradeEdit hs (fun _ => ⟨rfl, rfl⟩) _ _
  | vectors => exact scenesKept_gradeEdit hs (fun _ => ⟨rfl, rfl⟩) _ _
  | undone hlast => exact scenesKept_undoEntry hs hlast
  | cancelled =>
    rw [State.lineWork_replyCancelled]
    exact hs
  | allocated | dropped | loadStarted | loaded | installed | enables | profile | latches => exact hs

/-- A cut proposal: nothing, TABLE_FULL, or an unconfirmed record with the split scene's grade (R81). -/
theorem State.propose_cases (f : Nat) (o : Origin) :
    s.propose f o = s ∨ s.propose f o = s.raise .tableFull ∨
    (sceneAt s.scenes f = none ∧ s.scenes.length < 256 ∧
      s.propose f o = s.insertRecord ⟨f, (sceneOf s.scenes f).slot, .cut, 1, o, false⟩) := by
  unfold State.propose
  split
  next => exact .inl rfl
  next hfree =>
    split
    next => exact .inr (.inl rfl)
    next hroom =>
      exact .inr (.inr ⟨by simpa using hfree, scenesFull_eq_false.mp (by simpa using hroom), rfl⟩)

/-- A cut proposed within the reel keeps the laws (R81). -/
theorem scenesKept_propose {f : Nat} {q : Reel} (h : ScenesKept k s)
    (hreel : s.follower.reel = some q) (hwithin : f < q.length) (o : Origin) :
    ScenesKept k (s.propose f o) := by
  rcases s.propose_cases f o with heq | heq | ⟨hfree, hroom, heq⟩ <;> rw [heq]
  · exact h
  · exact scenesKept_congr h (by simp) (by simp) (by simp)
  · exact scenesKept_insertRecord h hreel hwithin hfree (Nat.le_refl 1)
      (Nat.le_of_ble_eq_true rfl) hroom

/-- A peer's cut is ignored, or proposed within the reel held (R149). -/
theorem State.takePeerCut_cases (src : Station) (reel f : Nat) :
    s.takePeerCut src reel f = s ∨
    ∃ q, s.follower.reel = some q ∧ f < q.length ∧
      s.takePeerCut src reel f = s.propose f (.peer src) := by
  unfold State.takePeerCut
  split
  next q hreel =>
    split
    next h => exact .inr ⟨q, hreel, h.2.2.2.2, rfl⟩
    next => exact .inl rfl
  next => exact .inl rfl

/-- What a cue does keeps the laws of table and history. -/
theorem Touch.scenesKept (hs : ScenesKept k s) (h : Touch s t) : ScenesKept k t := by
  cases h with
  | line hwork =>
    rw [hwork]
    exact hs
  | reel id len hlen =>
    have hpos : ∀ q ∈ (some ⟨id, len⟩ : Option Reel), 0 < q.length := by simpa using hlen
    exact ⟨⟨hpos, decide_eq_true (tableOk_initial hpos), fun _ => rfl⟩, hs.2.1, Nat.zero_le _⟩
  | rethread | frame | hold | role | lineReset => exact hs
  | peerCut src reel f =>
    rcases s.takePeerCut_cases src reel f with heq | ⟨q, hreel, hwithin, heq⟩ <;> rw [heq]
    · exact hs
    · exact scenesKept_propose hs hreel hwithin _
  | owner c => exact (ownerOf_owned c).scenesKept hs

/-- A chain of what cues do keeps a law that each of them keeps. -/
theorem Chain.induction {P : State → Prop} (hkeep : ∀ {s t}, P s → Touch s t → P t)
    (hs : P s) (h : Chain s t) : P t := by
  induction h with
  | refl => exact hs
  | tail _ htouch ih => exact hkeep ih htouch

end
end Sys2Proof.Machine

/-! The syncs and the field boundary, taken apart once: the judged field, the loss of lock, and the boundary work (R156 to R161). -/

namespace Sys2Proof.Machine

open Safety

section
variable {s t : State} {p : Bool}

/-- A bad field moves the runs alone, or declares a loss of lock held (R158, R159). -/
theorem State.badField_cases (s : State) :
    (∃ r : Raster, r.locked = s.raster.locked ∧ s.badField = { s with raster := r }) ∨
    (s.raster.locked = true ∧ s.raster.badRun ≠ 0 ∧ s.badField = s.loseLock) := by
  unfold State.badField
  split
  next hlocked =>
    split
    next => exact .inl ⟨{ s.raster with badRun := 1 }, rfl, rfl⟩
    next hrun => exact .inr ⟨hlocked, hrun, rfl⟩
  next => exact .inl ⟨{ s.raster with goodRun := 0 }, rfl, rfl⟩

/-- A judgement moves the lock monitor alone, or declares a loss of lock held (R156, R159). -/
theorem State.judgeField_cases (s : State) :
    (∃ r : Raster, (s.raster.locked = true → r.locked = true) ∧
      s.judgeField = { s with raster := r }) ∨
    (s.raster.locked = true ∧ s.judgeField = s.loseLock) := by
  unfold State.judgeField
  split
  next =>
    split
    next =>
      refine .inl ⟨s.goodField.raster, fun hlocked => ?_, s.goodField_eq⟩
      rw [State.goodField, if_pos hlocked]
      exact hlocked
    next =>
      rcases s.badField_cases with ⟨r, hlock, heq⟩ | ⟨hlocked, -, heq⟩
      · exact .inl ⟨r, fun h => hlock.trans h, heq⟩
      · exact .inr ⟨hlocked, heq⟩
  next => exact .inl ⟨s.raster, id, rfl⟩

/-- What the field sync itself sets: the line count and the timer start over, the mark and the parity (R153, R156). -/
def State.syncMarked (p : Bool) (s : State) : State :=
  { s with
    raster := { s.raster with lineCount := 0, fieldOpen := true, sinceStart := 0 }
    video := { s.video with parity := p } }

/-- A field sync is a boundary when lock is held once the field it ends is judged (R156, R160). -/
theorem State.fieldSync_eq (p : Bool) (s : State) :
    s.fieldSync p = if s.judgeField.raster.locked then (s.judgeField.syncMarked p).fieldBoundary
      else s.judgeField.syncMarked p := rfl

/-- A field sync: a boundary on a state with another lock monitor and parity; no boundary with another lock monitor and parity alone; or the declaration of a loss (R159, R160). -/
theorem State.fieldSync_cases (p : Bool) (s : State) :
    (∃ (r : Raster) (v : Video), r.locked = true ∧ v = { s.video with parity := p } ∧
      s.fieldSync p = State.fieldBoundary { s with raster := r, video := v }) ∨
    (∃ (r : Raster) (v : Video), s.raster.locked = false ∧ r.locked = false ∧
      v = { s.video with parity := p } ∧ s.fieldSync p = { s with raster := r, video := v }) ∨
    (s.raster.locked = true ∧ s.fieldSync p = s.loseLock.syncMarked p) := by
  rw [State.fieldSync_eq]
  rcases s.judgeField_cases with ⟨r, hkeep, heq⟩ | ⟨hlocked, heq⟩
  · rw [heq]
    have hmarked : ∃ m : Raster, m.locked = r.locked ∧
        State.syncMarked p { s with raster := r } =
          { s with raster := m, video := { s.video with parity := p } } :=
      ⟨{ r with lineCount := 0, fieldOpen := true, sinceStart := 0 }, rfl, rfl⟩
    obtain ⟨m, hm, hmarked⟩ := hmarked
    rw [hmarked]
    by_cases hlock : r.locked = true
    case pos => exact .inl ⟨m, _, hm.trans hlock, rfl, if_pos hlock⟩
    case neg =>
      have hunlocked : s.raster.locked = false := Bool.eq_false_iff.mpr fun h => hlock (hkeep h)
      exact .inr (.inl ⟨m, _, hunlocked, hm.trans (Bool.eq_false_iff.mpr hlock), rfl,
        if_neg hlock⟩)
  · refine .inr (.inr ⟨hlocked, ?_⟩)
    rw [heq, if_neg (Bool.eq_false_iff.mp State.loseLock_unlocked)]

/-- What a missing-sync expiry sets before the bad field counts (R157, R160). -/
def State.expired (s : State) : State :=
  { s with
    raster := { s.raster with lineCount := 0, fieldOpen := false, sinceStart := 0 }
    detector := { s.detector with capture := none } }

/-- A missing-sync expiry moves the lock monitor and voids the capture, or declares a loss (R157). -/
theorem State.missingSync_cases (s : State) :
    (∃ r : Raster, r.locked = s.raster.locked ∧
      s.missingSync = { s.expired with raster := r }) ∨
    (s.raster.locked = true ∧ s.missingSync = s.expired.loseLock) := by
  rcases s.expired.badField_cases with ⟨r, hlock, heq⟩ | ⟨hlocked, -, heq⟩
  · exact .inl ⟨r, hlock, heq⟩
  · exact .inr ⟨hlocked, heq⟩

/-! ## The boundary work -/

/-- The state a boundary leaves once follower, detector and controller are done (R147). -/
def State.followedWork (s : State) : State := s.followBoundary.fireAndControl s.firing s.arrives

/-- The requested film mode comes into effect (R194). -/
def State.filmTaken (s : State) : State :=
  { s with profile := { s.profile with filmInEffect := s.profile.filmRequested } }

/-- The state a boundary leaves once the install is done too (R160). -/
def State.installed (s : State) : State := s.followedWork.filmTaken.installBoundary

/-- A boundary is its blocks' work in order, then detector, snapshot and forced black (R160). -/
theorem State.fieldBoundary_eq (s : State) :
    s.fieldBoundary = { s.installed with
      detector := { s.closedDetector with
        bins := List.replicate 16 0, capture := s.installed.fieldCapture s.arrives }
      snapshot := s.installed.takeSnapshot
      forcedBlack := s.installed.engineState = .rollcall || s.installed.engineState = .unsync } :=
  rfl

/-- Firing and controller in the order that is free, with the count of that choice (R147, log 7). -/
theorem State.fireAndControl_cases (m : Option Measure) (b : Bool) (s : State) :
    (m = none ∧ s.fireAndControl m b = s.controllerBoundary b) ∨
    ∃ v, m = some v ∧
      (s.fireAndControl m b =
        (State.fire v { s with freeCount := s.freeCount + 1 }).controllerBoundary b ∨
      s.fireAndControl m b =
        State.fire v (State.controllerBoundary b { s with freeCount := s.freeCount + 1 })) := by
  cases m with
  | none => exact .inl ⟨rfl, rfl⟩
  | some v =>
    refine .inr ⟨v, rfl, ?_⟩
    unfold State.fireAndControl
    dsimp only
    split
    next => exact .inl rfl
    next => exact .inr rfl

/-- The CUT cue of a comparison that fires (R148, Table 8-3). -/
def State.cutCue (v : Measure) (s : State) : TxCue :=
  ⟨15, .cut ((s.follower.reel.map (·.id)).getD 0) v.frame v.value⟩

/-- The CUT cue is offered when its report is on (R146). -/
def State.cutReported (v : Measure) (s : State) : State :=
  if s.reportsCut then s.offer (s.cutCue v) else s

/-- A firing reports the cut, and then proposes it when the DETECT strap is on (R146, R148). -/
theorem State.fire_eq_propose (v : Measure) (s : State) :
    s.fire v = if s.straps.detect then (s.cutReported v).propose v.frame .detector
      else s.cutReported v := by
  have hcue : ∀ r : Option Reel, (match r with | some q => q.id | none => 0) =
      (r.map (·.id)).getD 0 := fun r => by cases r <;> rfl
  unfold State.fire State.cutReported State.cutCue
  rw [← hcue]
  by_cases hcut : s.reportsCut = true
  · simp only [hcut, if_true, State.offer_fields] <;> rfl
  · simp only [hcut, Bool.false_eq_true, if_false]

/-- Reporting the cut is line work. -/
theorem State.lineWork_cutReported (v : Measure) : s.LineWork (s.cutReported v) := by
  unfold State.cutReported
  split
  next => exact State.lineWork_offer _
  next => exact .refl s

/-- The measure that fires is of the captured frame, at or above the threshold and late enough in the captured scene (R146). -/
theorem State.firing_eq_some {v : Measure} :
    s.firing = some v ↔ s.comparison = some v ∧ ∃ c, s.detector.capture = some c ∧
      s.profile.threshold ≤ v.value ∧
      (s.profile.minScene : Int) ≤ (v.frame : Int) - (c.sceneStart : Int) := by
  unfold State.firing
  cases s.comparison with
  | none => simp
  | some m =>
    cases s.detector.capture with
    | none => simp
    | some c =>
      dsimp only
      split
      next h =>
        constructor
        · rintro ⟨⟩
          exact ⟨rfl, c, rfl, h⟩
        · rintro ⟨h, -⟩
          exact h
      next h =>
        constructor
        · nofun
        · rintro ⟨⟨⟩, x, ⟨⟩, hx⟩
          exact absurd hx h

/-- The measure of a comparison is of the captured frame (R144). -/
theorem State.comparison_frame {v : Measure} (h : s.comparison = some v) :
    ∃ c, s.detector.capture = some c ∧ v.frame = c.frame := by
  unfold State.comparison at h
  split at h
  next c r hwhole _ =>
    unfold State.wholeCapture at hwhole
    split at hwhole
    next =>
      refine ⟨c, hwhole, ?_⟩
      split at h
      next =>
        cases h
        rfl
      next => cases h
    next => cases hwhole
  next => cases h

end

/-! ## Table and history at a boundary -/

section
variable {s : State} {k : Nat}

/-- The detector's firing within the reel keeps the laws of table and history (R81, R146). -/
theorem scenesKept_fire {v : Measure} {q : Reel} (h : ScenesKept k s)
    (hreel : s.follower.reel = some q) (hwithin : v.frame < q.length) : ScenesKept k (s.fire v) := by
  have hwork := State.lineWork_cutReported (s := s) v
  have hu : ScenesKept k (s.cutReported v) := (Touch.line hwork).scenesKept h
  have hureel : (s.cutReported v).follower.reel = some q := by
    rw [hwork]
    exact hreel
  rw [State.fire_eq_propose]
  split
  next => exact scenesKept_propose hu hureel hwithin _
  next => exact hu

/-- The controller leaves table and history. -/
theorem scenesKept_controllerBoundary (h : ScenesKept k s) (b : Bool) :
    ScenesKept k (s.controllerBoundary b) :=
  scenesKept_congr h (by simp) (by simp) (by simp)

/-- A firing within the reel and the controller's work keep the laws of table and history, whichever comes first (R147). -/
theorem scenesKept_fireAndControl {m : Option Measure} (h : ScenesKept k s)
    (hwithin : ∀ v ∈ m, ∃ q, s.follower.reel = some q ∧ v.frame < q.length) (b : Bool) :
    ScenesKept k (s.fireAndControl m b) := by
  have hcounted : ScenesKept k { s with freeCount := s.freeCount + 1 } := h
  rcases s.fireAndControl_cases m b with ⟨-, heq⟩ | ⟨v, rfl, heq⟩
  · rw [heq]
    exact scenesKept_controllerBoundary h b
  · obtain ⟨q, hreel, hframe⟩ := hwithin v rfl
    rcases heq with heq | heq <;> rw [heq]
    · exact scenesKept_controllerBoundary (scenesKept_fire hcounted hreel hframe) b
    · refine scenesKept_fire (scenesKept_controllerBoundary hcounted b) ?_ hframe
      simpa using hreel

/-- The follower keeps the reel at a boundary. -/
theorem Follower.settle_reel (f : Follower) : f.settle.reel = f.reel := by
  unfold Follower.settle
  split
  next => rfl
  next =>
    unfold Follower.carryOn
    split
    next => rfl
    next =>
      unfold Follower.coastOn
      repeat' split
      all_goals rfl

/-- The follower's boundary work keeps the reel. -/
theorem State.followBoundary_reel : s.followBoundary.follower.reel = s.follower.reel := by
  rw [State.followBoundary_follower, Follower.settle_reel]
  rfl

/-- A boundary keeps the laws of table and history: what the detector proposes is a captured frame, which lies in the reel (R82, R141). -/
theorem scenesKept_fieldBoundary (h : ScenesKept k s)
    (hcapture : ∀ c ∈ s.detector.capture, ∃ q ∈ s.follower.reel, c.frame < q.length) :
    ScenesKept k s.fieldBoundary := by
  have hfollowed : ScenesKept k s.followBoundary :=
    scenesKept_congr h State.followBoundary_reel (by simp) (by simp)
  have hwork : ScenesKept k s.followedWork := by
    refine scenesKept_fireAndControl hfollowed (fun v hv => ?_) s.arrives
    obtain ⟨c, hc, hframe⟩ := State.comparison_frame (State.firing_eq_some.mp hv).1
    obtain ⟨q, hq, hlt⟩ := hcapture c hc
    exact ⟨q, State.followBoundary_reel.trans hq, hframe ▸ hlt⟩
  rw [State.fieldBoundary_eq]
  exact scenesKept_congr hwork (by simp [State.installed, State.filmTaken])
    (by simp [State.installed, State.filmTaken]) (by simp [State.installed, State.filmTaken])

/-- A loss of lock keeps the laws of table and history. -/
theorem scenesKept_loseLock (h : ScenesKept k s) : ScenesKept k s.loseLock := by
  refine scenesKept_congr h ?_ (by simp) (by simp)
  simp [State.loseLock]

/-- A field sync keeps the laws of table and history. -/
theorem scenesKept_fieldSync (h : ScenesKept k s)
    (hcapture : ∀ c ∈ s.detector.capture, ∃ q ∈ s.follower.reel, c.frame < q.length) (p : Bool) :
    ScenesKept k (s.fieldSync p) := by
  rcases s.fieldSync_cases p with ⟨r, v, -, -, heq⟩ | ⟨r, v, -, -, -, heq⟩ | ⟨-, heq⟩ <;> rw [heq]
  · exact scenesKept_fieldBoundary (s := { s with raster := r, video := v }) h hcapture
  · exact h
  · exact scenesKept_loseLock h

/-- A missing-sync expiry keeps the laws of table and history. -/
theorem scenesKept_missingSync (h : ScenesKept k s) : ScenesKept k s.missingSync := by
  rcases s.missingSync_cases with ⟨r, -, heq⟩ | ⟨-, heq⟩ <;> rw [heq]
  · exact h
  · exact scenesKept_loseLock (s := s.expired) h

/-- After a power-on reset the table is that of R68, and the history is empty. -/
theorem scenesKept_of_initial {t : State} (hreel : t.follower.reel = none)
    (hscenes : t.scenes = [Scene.head]) (hhistory : t.history = ⟨[], true⟩) (hk : 16 ≤ k) : ScenesKept k t := by
  refine ⟨⟨by simp [hreel], ?_, ?_⟩, hk, by simp [hhistory]⟩
  · rw [hreel, hscenes, hhistory]
    exact decide_eq_true (tableOk_initial nofun)
  · rw [hscenes, hhistory]
    exact fun _ => rfl

/-- What a power-on reset leaves of the blocks is their power-on values, whatever the straps (R186). -/
theorem State.powerOn_cases (straps : Straps) :
    ∃ (l : Line) (w : BitVec 8), State.powerOn straps = { State.cold straps with
      line := l, latches := w, rollCall := some Config.rollCallClocks } := by
  unfold State.powerOn
  split <;> exact ⟨_, _, rfl⟩

/-- What one command does keeps the laws of table and history. -/
theorem Deed.scenesKept {c : Instr} {t : State} (hs : ScenesKept k s)
    (hcapture : ∀ c ∈ s.detector.capture, ∃ q ∈ s.follower.reel, c.frame < q.length)
    (h : Deed s c t) : ScenesKept k t := by
  cases h with
  | powerOn straps =>
    obtain ⟨l, w, heq⟩ := State.powerOn_cases straps
    rw [heq]
    exact scenesKept_of_initial rfl rfl rfl hs.2.1
  | asserted => exact scenesKept_of_initial rfl rfl rfl hs.2.1
  | cues _ _ hchain => exact hchain.induction Touch.scenesKept hs
  | fieldSync p => exact scenesKept_fieldSync hs hcapture p
  | expiry => exact scenesKept_missingSync hs
  | pixelClock => exact scenesKept_congr hs (by simp) (by simp) (by simp)
  | lineSync | held | windowEnd => exact hs

end

/-- Settles O7: each command keeps the walk back through the history, an edit because its entry restores the table before it; the captured frame that the detector proposes lies within the reel by the soundness of the detector. -/
theorem stepKeepsScenes : Obligations.StepKeepsScenes := by
  unfold Obligations.StepKeepsScenes
  intro s t hscenes hbounded _ hdetector hstep
  obtain ⟨-, -, -, hcapture⟩ := hdetector
  rcases step_cases hstep with rfl | ⟨c, rest, heffect⟩
  · exact ⟨hscenes, hbounded⟩
  · obtain ⟨hkept, -, hlength⟩ := Deed.scenesKept (s := { s with pending := rest })
      ⟨hscenes, Nat.le_refl 16, hbounded⟩ hcapture heffect.deed
    exact ⟨hkept, hlength⟩

end Sys2Proof.Machine

/-! Law L3: each operation that moves a holder moves its reference (R49), so that every step keeps the counts. -/

namespace Sys2Proof.Machine

open Safety

/-! ## Who names a slot -/

section
variable {p : Pool} {n m : Nat}

/-- A claim of an allocated slot raises its count (R49). -/
theorem Pool.refs_claim (halloc : p.slot m ≠ none) (h0 : n ≠ 0) :
    (p.claim m).refs n = p.refs n + if m = n then 1 else 0 := by
  rw [Pool.claim, Pool.refs_recount]
  by_cases h : m = n
  · subst h
    simp [h0, halloc]
  · simp [h, Ne.symm h]

/-- A release lowers the count (R49). -/
theorem Pool.refs_release (h0 : n ≠ 0) :
    (p.release m).refs n = p.refs n - if m = n then 1 else 0 := by
  rw [Pool.release, Pool.refs_recount]
  by_cases h : m = n
  · subst h
    by_cases hfree : p.slot m = none
    · simp [hfree, Pool.refs_of_free hfree]
    · simp [h0, hfree]
  · simp [h, Ne.symm h]

/-- A claim only counts. -/
theorem Pool.recounted_claim : p.Recounted (p.claim m) := Pool.recounted_recount _

/-- A release only counts. -/
theorem Pool.recounted_release : p.Recounted (p.release m) := Pool.recounted_recount _

end

section
variable {s t : State} {n : Nat} {e : Entry}

/-- A holder's slot is allocated (R49). -/
theorem slot_of_holders (hs : PoolSound s) (hn : n < 128) (h : 0 < holders s n) :
    s.pool.slot n ≠ none := by
  obtain ⟨-, -, -, hfree, -⟩ := hs
  intro hnone
  rw [hfree n hn hnone] at h
  exact absurd h (Nat.lt_irrefl 0)

/-- A record's slot is allocated. -/
theorem slot_of_scene {r : Scene} (hs : PoolSound s) (hr : r ∈ s.scenes) :
    s.pool.slot r.slot ≠ none := by
  obtain ⟨-, -, -, -, hscenes, -⟩ := id hs
  refine slot_of_holders hs (hscenes r hr) ?_
  have hcount : 0 < s.scenes.countP (fun x => x.slot == r.slot) :=
    List.countP_pos_iff.mpr ⟨r, hr, beq_self_eq_true _⟩
  unfold holders
  omega

/-- The slot an entry names is allocated. -/
theorem slot_of_entry (hs : PoolSound s) (he : e ∈ s.history.entries) (hn : n ∈ e.slot?) :
    s.pool.slot n ≠ none := by
  obtain ⟨-, -, -, -, -, hentries, -⟩ := id hs
  refine slot_of_holders hs (hentries e he n hn) ?_
  have hcount : 0 < s.history.entries.countP (fun x => x.slot? == some n) :=
    List.countP_pos_iff.mpr ⟨e, he, by simpa using hn⟩
  unfold holders
  omega

/-- The slots that the contexts name are allocated. -/
theorem slot_of_context (hs : PoolSound s) :
    s.pool.slot s.controller.current.slot ≠ none ∧
    ∀ c ∈ s.controller.incoming, s.pool.slot c.slot ≠ none := by
  obtain ⟨-, -, -, -, -, -, hcurrent, hincoming, -⟩ := id hs
  refine ⟨slot_of_holders hs hcurrent ?_, fun c hc => slot_of_holders hs (hincoming c hc) ?_⟩
  · unfold holders
    rw [if_pos rfl]
    omega
  · obtain hc : s.controller.incoming = some c := hc
    unfold holders
    rw [hc, Option.map_some, if_pos rfl]
    omega

/-- An allocated slot of a sound pool is one of 0..127. -/
theorem lt_of_slot (hs : PoolSound s) (h : s.pool.slot n ≠ none) : n < 128 := by
  obtain ⟨hlength, -⟩ := hs
  exact hlength ▸ Pool.lt_length_of_slot h

/-- How many of these holders name a slot: records, entries, CURRENT and INCOMING (R49). -/
def holdersOf (scenes : List Scene) (entries : List Entry) (current : Nat) (incoming : Option Nat)
    (n : Nat) : Nat :=
  scenes.countP (fun r => r.slot == n) + entries.countP (fun e => e.slot? == some n) +
  (if current = n then 1 else 0) + (if incoming = some n then 1 else 0)

/-- The holders of a slot are counted over the four parts of the state that name slots. -/
theorem holders_eq_holdersOf (s : State) (n : Nat) :
    holders s n = holdersOf s.scenes s.history.entries s.controller.current.slot
      (s.controller.incoming.map (·.slot)) n := rfl

/-- Law L3 after a change of holders that moves their references with them and names allocated slots alone. -/
theorem poolSound_of_recounted (hs : PoolSound s) (hpool : s.pool.Recounted t.pool)
    (hrefs : ∀ n, n ≠ 0 →
      s.pool.refs n = holdersOf s.scenes s.history.entries s.controller.current.slot
        (s.controller.incoming.map (·.slot)) n →
      t.pool.refs n = holdersOf t.scenes t.history.entries t.controller.current.slot
        (t.controller.incoming.map (·.slot)) n)
    (hscenes : ∀ r ∈ t.scenes, s.pool.slot r.slot ≠ none)
    (hentries : ∀ e ∈ t.history.entries, e ∈ s.history.entries)
    (hcurrent : s.pool.slot t.controller.current.slot ≠ none)
    (hincoming : ∀ c ∈ t.controller.incoming, s.pool.slot c.slot ≠ none) : PoolSound t := by
  have hcounts := fun n => refs_eq_holders (n := n) hs
  have hlt := fun n => lt_of_slot (n := n) hs
  obtain ⟨hlength, hzero, -, -, -, hslots, -, -, hedits⟩ := hs
  exact poolSound_of_refs (hpool.length.trans hlength) (hpool.zero.trans hzero)
    (fun n hn h0 => hrefs n h0 (hcounts n hn h0)) (fun r hr => hlt _ (hscenes r hr))
    (fun e he => hslots e (hentries e he)) (hlt _ hcurrent) (fun c hc => hlt _ (hincoming c hc))
    (fun e he => hedits e (hentries e he))

/-! ## Records of the table -/

/-- A record that names an allocated slot joins the table with its reference (R49, R73). -/
theorem poolSound_insertScene {r : Scene} (hs : PoolSound s) (ht : Sorted s.scenes)
    (hfree : ∀ x ∈ s.scenes, x.start ≠ r.start) (halloc : s.pool.slot r.slot ≠ none) :
    PoolSound { s with scenes := insertScene r s.scenes, pool := s.pool.claim r.slot } := by
  obtain ⟨hcurrent, hincoming⟩ := slot_of_context hs
  refine poolSound_of_recounted hs Pool.recounted_claim (fun n h0 hn => ?_) (fun x hx => ?_)
    (fun _ he => he) hcurrent hincoming
  · have hcount := (insertScene_perm ht hfree).countP_eq (fun x => x.slot == n)
    rw [List.countP_cons] at hcount
    simp only [beq_iff_eq] at hcount
    dsimp only
    rw [Pool.refs_claim halloc h0, hn]
    unfold holdersOf
    omega
  · rcases (mem_insertScene hfree).mp hx with rfl | hx
    · exact halloc
    · exact slot_of_scene hs hx

/-- A record leaves the table with its reference (R49, R74). -/
theorem poolSound_removeScene {r : Scene} (hs : PoolSound s) (ht : Sorted s.scenes)
    (hr : r ∈ s.scenes) :
    PoolSound { s with
      scenes := removeScene r.start s.scenes, pool := s.pool.release r.slot } := by
  obtain ⟨hcurrent, hincoming⟩ := slot_of_context hs
  refine poolSound_of_recounted hs Pool.recounted_release (fun n h0 hn => ?_)
    (fun x hx => slot_of_scene hs (mem_removeScene.mp hx).1) (fun _ he => he) hcurrent hincoming
  have hcount := (perm_removeScene ht hr).countP_eq (fun x => x.slot == n)
  rw [List.countP_cons] at hcount
  simp only [beq_iff_eq] at hcount
  dsimp only
  rw [Pool.refs_release h0, hn]
  unfold holdersOf
  omega

/-- A record is changed to name an allocated slot, and its reference moves (R49, R75). -/
theorem poolSound_changeRecord {r new : Scene} (hs : PoolSound s) (ht : Sorted s.scenes)
    (hr : r ∈ s.scenes) (hstart : new.start = r.start) (halloc : s.pool.slot new.slot ≠ none) :
    PoolSound (s.changeRecord r new) := by
  obtain ⟨hcurrent, hincoming⟩ := slot_of_context hs
  refine poolSound_of_recounted hs (Pool.recounted_claim.trans Pool.recounted_release)
    (fun n h0 hn => ?_) (fun x hx => ?_) (fun _ he => he) hcurrent hincoming
  · have hbefore := (perm_removeScene ht hr).countP_eq (fun x => x.slot == n)
    have hafter := (replaceScene_perm ht hr hstart).countP_eq (fun x => x.slot == n)
    rw [List.countP_cons] at hbefore hafter
    simp only [beq_iff_eq] at hbefore hafter
    simp only [State.changeRecord_fields]
    rw [Pool.refs_release h0, Pool.refs_claim halloc h0, hn]
    unfold holdersOf
    omega
  · rcases (mem_replaceScene ⟨r, hr, hstart.symm⟩).mp hx with rfl | ⟨hx, -⟩
    · exact halloc
    · exact slot_of_scene hs hx

/-- A record that names an allocated slot is inserted with its entry (R73, R81, R86). -/
theorem poolSound_insertRecord {r : Scene} (hs : PoolSound s) (ht : Sorted s.scenes)
    (hfree : sceneAt s.scenes r.start = none) (halloc : s.pool.slot r.slot ≠ none) :
    PoolSound (s.insertRecord r) := by
  have hpushed : PoolSound (s.push (.sceneInserted r.start)) := poolSound_push hs nofun nofun
  have hscenes : (s.push (.sceneInserted r.start)).scenes = s.scenes := by simp
  refine poolSound_insertScene hpushed (hscenes ▸ ht) (hscenes ▸ sceneAt_none.mp hfree) ?_
  exact mt (State.recounted_push _).slot_eq_none.mp halloc

/-- A record is cleared with its entry (R74, R86). -/
theorem poolSound_clearRecord {r : Scene} (hs : PoolSound s) (ht : Sorted s.scenes)
    (hr : r ∈ s.scenes) : PoolSound (s.clearRecord r) := by
  have hpushed : PoolSound (s.push (.sceneRemoved r)) := by
    refine poolSound_push hs (fun n hn => ?_) nofun
    obtain rfl := Option.some.inj hn
    exact slot_of_scene hs hr
  have hscenes : (s.push (.sceneRemoved r)).scenes = s.scenes := by simp
  have hremoved := poolSound_removeScene hpushed (hscenes ▸ ht) (hscenes ▸ hr)
  rwa [hscenes] at hremoved

/-- A record is set with its entry (R75, R86). -/
theorem poolSound_set {r new : Scene} (hs : PoolSound s) (ht : Sorted s.scenes)
    (hr : r ∈ s.scenes) (hstart : new.start = r.start) (halloc : s.pool.slot new.slot ≠ none) :
    PoolSound ((s.push (.sceneChanged r)).changeRecord r new) := by
  have hpushed : PoolSound (s.push (.sceneChanged r)) := by
    refine poolSound_push hs (fun n hn => ?_) nofun
    obtain rfl := Option.some.inj hn
    exact slot_of_scene hs hr
  have hscenes : (s.push (.sceneChanged r)).scenes = s.scenes := by simp
  exact poolSound_changeRecord hpushed (hscenes ▸ ht) (hscenes ▸ hr) hstart
    (mt (State.recounted_push _).slot_eq_none.mp halloc)

/-! ## Purges -/

/-- References released one after the other only count, and each lowers its slot's count. -/
theorem foldl_release {α : Type} (f : Pool → α → Pool) (names : α → Option Nat)
    (hrecounted : ∀ (p : Pool) (a : α), p.Recounted (f p a))
    (hrefs : ∀ (p : Pool) (a : α) (n : Nat), n ≠ 0 → (f p a).refs n = p.refs n - if names a = some n then 1 else 0)
    (as : List α) (p : Pool) :
    p.Recounted (as.foldl f p) ∧ ∀ n, n ≠ 0 →
      (as.foldl f p).refs n = p.refs n - as.countP (fun a => names a == some n) := by
  induction as generalizing p with
  | nil => exact ⟨.refl p, fun n _ => rfl⟩
  | cons a as ih =>
    obtain ⟨hcounted, hcounts⟩ := ih (f p a)
    refine ⟨(hrecounted p a).trans hcounted, fun n h0 => ?_⟩
    rw [List.foldl_cons, hcounts n h0, hrefs p a n h0, List.countP_cons]
    simp only [beq_iff_eq]
    omega

/-- A purge of the table keeps the counts (R78). -/
theorem poolSound_purgeScenes (hs : PoolSound s) : PoolSound s.purgeScenes := by
  obtain ⟨hcurrent, hincoming⟩ := slot_of_context hs
  obtain ⟨hcounted, hcounts⟩ := foldl_release (fun p (r : Scene) => p.release r.slot)
    (fun r => some r.slot) (fun _ _ => Pool.recounted_release)
    (fun p r n h0 => by rw [Pool.refs_release h0]; simp only [Option.some.injEq])
    (s.scenes.filter (fun r => !r.confirmed)) s.pool
  refine poolSound_of_recounted hs hcounted (fun n h0 hn => ?_)
    (fun x hx => slot_of_scene hs (List.mem_of_mem_filter hx)) (fun _ he => he) hcurrent hincoming
  have hsplit := List.countP_eq_countP_filter_add s.scenes (fun r => r.slot == n)
    (fun r => r.confirmed)
  have hpurged := hcounts n h0
  simp only [Option.some_beq_some] at hpurged
  simp only [State.purgeScenes_fields]
  rw [hpurged, hn]
  unfold holdersOf
  omega

/-- A purge of the history keeps the counts (R93). -/
theorem poolSound_purgeHistory (hs : PoolSound s) : PoolSound s.purgeHistory := by
  obtain ⟨hcurrent, hincoming⟩ := slot_of_context hs
  obtain ⟨hcounted, hcounts⟩ := foldl_release (fun p (e : Entry) => p.releaseEntry e)
    Entry.slot? (fun _ e => Pool.recounted_releaseEntry e)
    (fun p e n h0 => Pool.refs_releaseEntry e h0) s.history.entries s.pool
  refine poolSound_of_recounted hs hcounted (fun n h0 hn => ?_)
    (fun x hx => slot_of_scene hs hx) (fun _ he => absurd he List.not_mem_nil) hcurrent hincoming
  simp only [State.purgeHistory_fields]
  rw [hcounts n h0, hn]
  unfold holdersOf
  rw [List.countP_nil]
  omega

/-! ## UNDO -/

/-- The newest entry leaves the history with its reference (R86, R90). -/
def State.dropNewest (e : Entry) (s : State) : State :=
  { s with
    history := { s.history with entries := s.history.entries.dropLast }
    pool := s.pool.releaseEntry e }

/-- An UNDO is the revert, after which the entry leaves (R90). -/
theorem State.undoEntry_eq (e : Entry) (s : State) : s.undoEntry e = (s.revert e).dropNewest e := by
  cases e with
  | sceneInserted f =>
    unfold State.undoEntry State.dropNewest State.revert
    dsimp only
    split <;> rfl
  | sceneRemoved r => rfl
  | sceneChanged r =>
    unfold State.undoEntry State.dropNewest State.revert
    dsimp only
    split <;> rfl
  | primaryChanged n p => rfl
  | vectorsChanged n vs => rfl

/-- An UNDO works on table, history, pool and contexts alone (Table 5-4). -/
theorem State.undoEntry_work (e : Entry) (s : State) :
    s.undoEntry e = { s with
      scenes := (s.undoEntry e).scenes
      history := (s.undoEntry e).history
      pool := (s.undoEntry e).pool
      controller := (s.undoEntry e).controller } := by
  rw [State.undoEntry_eq]
  unfold State.dropNewest State.revert
  dsimp only
  split
  next => split <;> rfl
  next => rfl
  next => split <;> rfl
  next => rfl
  next => rfl

/-- The newest entry that leaves keeps the counts (R86). -/
theorem poolSound_dropNewest (hs : PoolSound s) (hlast : s.history.entries.getLast? = some e) :
    PoolSound (s.dropNewest e) := by
  obtain ⟨hcurrent, hincoming⟩ := slot_of_context hs
  refine poolSound_of_recounted hs (Pool.recounted_releaseEntry e) (fun n h0 hn => ?_)
    (fun x hx => slot_of_scene hs hx) (fun _ he => List.mem_of_mem_dropLast he) hcurrent hincoming
  have hcount : s.history.entries.countP (fun x => x.slot? == some n) =
      s.history.entries.dropLast.countP (fun x => x.slot? == some n) +
        if e.slot? = some n then 1 else 0 := by
    conv_lhs => rw [entries_eq_of_getLast hlast]
    rw [List.countP_append, List.countP_singleton]
    simp only [beq_iff_eq]
  dsimp only [State.dropNewest]
  rw [Pool.refs_releaseEntry e h0, hn]
  unfold holdersOf
  omega

/-- A revert of an entry of the history that fits the table keeps the counts (R59, R82). -/
theorem poolSound_revert (hs : PoolSound s) (ht : Sorted s.scenes)
    (he : e ∈ s.history.entries) (hfits : entryFits e s.scenes = true) :
    PoolSound (s.revert e) := by
  have hedits : ∀ n, editedSlot e = some n → n ≠ 0 := by
    obtain ⟨-, -, -, -, -, -, -, -, hedits⟩ := hs
    rintro n hn rfl
    exact hedits e he hn
  cases e with
  | sceneInserted f =>
    unfold State.revert
    dsimp only
    split
    next r hr =>
      obtain ⟨hmem, rfl⟩ := sceneAt_some hr
      exact poolSound_removeScene hs ht hmem
    next => exact hs
  | sceneRemoved r =>
    rw [entryFits, Bool.and_eq_true, Bool.not_eq_true', List.any_eq_false] at hfits
    exact poolSound_insertScene hs ht (fun x hx => by simpa using hfits.2 x hx)
      (slot_of_entry hs he rfl)
  | sceneChanged r =>
    unfold State.revert
    dsimp only
    split
    next now hnow =>
      obtain ⟨hmem, hstart⟩ := sceneAt_some hnow
      exact poolSound_changeRecord hs ht hmem hstart.symm (slot_of_entry hs he rfl)
    next => exact hs
  | primaryChanged n p => exact poolSound_writeSlot hs (hedits n rfl) _
  | vectorsChanged n vs => exact poolSound_writeSlot hs (hedits n rfl) _

/-- An UNDO keeps the counts (R90, log 31). -/
theorem poolSound_undoEntry (hs : PoolSound s) (hscenes : ScenesSound s)
    (hlast : s.history.entries.getLast? = some e) : PoolSound (s.undoEntry e) := by
  have ht : Sorted s.scenes := (tableOk_of_scenesSound hscenes).2.2.1
  have hreverted := poolSound_revert hs ht (List.mem_of_getLast? hlast)
    (reverts_newest hscenes hlast).1
  rw [State.undoEntry_eq]
  refine poolSound_dropNewest hreverted ?_
  rwa [(State.revert_history e).1]

/-! ## Slots allocated and freed -/

/-- The search of R48 ends at a free slot, when it ends at one of 0..127. -/
theorem Pool.slot_firstFree {p : Pool} (h : p.firstFree < 128) :
    p.slot p.firstFree = none := by
  unfold Pool.firstFree at h ⊢
  cases hfind : p.slots.findIdx? (·.isNone) with
  | none =>
    rw [hfind] at h
    exact absurd h (Nat.lt_irrefl 128)
  | some n =>
    obtain ⟨hn, hnone, -⟩ := List.findIdx?_eq_some_iff_getElem.mp hfind
    simpa [Pool.slot, hn] using hnone

/-- A slot that nobody names is given contents with a count of 0, or none (R48, R50). -/
theorem poolSound_setSlot {o : Option Slot} (hs : PoolSound s) (hn : n < 128) (h0 : n ≠ 0)
    (hheld : holders s n = 0) (hrefs : ∀ r ∈ o, r.refs = 0) : PoolSound (s.setSlot n o) := by
  have hcounts := fun m => refs_eq_holders (n := m) hs
  obtain ⟨hlength, hzero, -, -, hscenes, hslots, hcurrent, hincoming, hedits⟩ := hs
  have hslot := State.setSlot_slot o (hn.trans_eq hlength.symm)
  refine poolSound_of_refs ?_ ?_ (fun m hm hm0 => ?_) hscenes hslots hcurrent hincoming hedits
  · rw [State.setSlot, List.length_set, hlength]
  · rw [hslot, if_neg h0.symm, hzero]
  · have hholders : holders (s.setSlot n o) m = holders s m := rfl
    rw [hholders, Pool.refs, hslot]
    by_cases hmn : m = n
    · subst hmn
      rw [if_pos rfl, hheld]
      cases o with
      | none => rfl
      | some r => exact hrefs r rfl
    · rw [if_neg hmn]
      exact hcounts m hm hm0

/-- A slot that a grade field may name is allocated (R71). -/
theorem slot_of_nameable {same : Nat} (h : s.Nameable same n) (hsame : s.pool.slot same ≠ none) :
    s.pool.slot n ≠ none := by
  rcases h with h | rfl
  · exact Option.isSome_iff_ne_none.mp h
  · exact hsame

/-- The scene of a frame is a record of the table, at or before the frame (R67). -/
theorem sceneOf_mem {u : List Scene} (hzero : ∃ x ∈ u, x.start = 0) (f : Nat) :
    sceneOf u f ∈ u ∧ (sceneOf u f).start ≤ f := by
  obtain ⟨x, hx, hstart⟩ := hzero
  have hmem : x ∈ u.filter (fun r => r.start ≤ f) :=
    List.mem_filter.mpr ⟨hx, decide_eq_true (hstart ▸ Nat.zero_le f)⟩
  unfold sceneOf
  cases hlast : (u.filter (fun r => r.start ≤ f)).getLast? with
  | none =>
    rw [List.getLast?_eq_none_iff.mp hlast] at hmem
    cases hmem
  | some r =>
    obtain ⟨hr, hle⟩ := List.mem_filter.mp (List.mem_of_getLast? hlast)
    exact ⟨hr, of_decide_eq_true hle⟩

/-- What an owner does keeps the counts. -/
theorem Owned.poolSound (hs : PoolSound s) (hscenes : ScenesSound s) {named : Option Byte} (h : Owned s named t) :
    PoolSound t := by
  have hok := tableOk_of_scenesSound hscenes
  have ht : Sorted s.scenes := hok.2.2.1
  cases h with
  | marked _ _ hfree hslot =>
    exact poolSound_insertRecord hs ht hfree
      (slot_of_nameable hslot (slot_of_scene hs (sceneOf_mem (tableOk_head hok) _).1))
  | cleared hr => exact poolSound_clearRecord hs ht (sceneAt_some hr).1
  | set _ hr hstart _ _ hslot =>
    have hmem := (sceneAt_some hr).1
    exact poolSound_set hs ht hmem hstart (slot_of_nameable hslot (slot_of_scene hs hmem))
  | purged => exact poolSound_purgeHistory (poolSound_purgeScenes hs)
  | @allocated n hn hfirst =>
    obtain ⟨hlength, hzero, -, hfree, -⟩ := id hs
    have hnone : s.pool.slot n = none := hfirst ▸ Pool.slot_firstFree (hfirst ▸ hn)
    refine poolSound_setSlot hs hn ?_ (hfree n hn hnone) (by simp)
    rintro rfl
    rw [hzero] at hnone
    cases hnone
  | dropped hn h0 hslot hrefs =>
    refine poolSound_setSlot hs hn h0 ?_ nofun
    rw [← refs_eq_holders hs hn h0, Pool.refs_of_slot hslot, hrefs]
  | primary hn h0 hslot =>
    exact (gradeEdit_effects hs h0 (hslot ▸ Option.some_ne_none _) rfl rfl _).2.2.1
  | vectors hn h0 hslot =>
    exact (gradeEdit_effects hs h0 (hslot ▸ Option.some_ne_none _) rfl rfl _).2.2.1
  | undone hlast => exact poolSound_undoEntry hs hscenes hlast
  | cancelled =>
    rw [State.lineWork_replyCancelled]
    exact hs
  | same | loadStarted | loaded | installed | enables | profile | latches => exact hs

/-! ## The grade contexts -/

/-- A running dissolve that completes keeps the counts (R121, R123). -/
theorem poolSound_completeDissolve (hs : PoolSound s) : PoolSound s.completeDissolve := by
  obtain ⟨-, hincoming⟩ := slot_of_context hs
  unfold State.completeDissolve
  split
  next c hc =>
    refine poolSound_of_recounted hs Pool.recounted_release (fun n h0 hn => ?_)
      (fun x hx => slot_of_scene hs hx) (fun _ he => he) (hincoming c hc) nofun
    rw [hc] at hn
    dsimp only
    rw [Pool.refs_release h0, hn]
    simp only [holdersOf, Option.map_some, Option.map_none, Option.some.injEq, reduceCtorEq,
      if_false]
    omega
  next => exact hs

/-- After a completed dissolve none runs. -/
theorem State.completeDissolve_incoming : s.completeDissolve.controller.incoming = none := by
  unfold State.completeDissolve
  split
  next => rfl
  next h => exact h

/-- A CUT to a scene of the table keeps the counts (R127). -/
theorem poolSound_cutTo {r : Scene} (hs : PoolSound s) (hr : r ∈ s.scenes) :
    PoolSound (s.cutTo r) := by
  have hcompleted := poolSound_completeDissolve hs
  have halloc : s.completeDissolve.pool.slot r.slot ≠ none :=
    slot_of_scene hcompleted (by simpa using hr)
  have hidle := State.completeDissolve_incoming (s := s)
  unfold State.cutTo
  generalize s.completeDissolve = u at hcompleted halloc hidle
  refine poolSound_of_recounted hcompleted (Pool.recounted_claim.trans Pool.recounted_release)
    (fun n h0 hn => ?_) (fun x hx => slot_of_scene hcompleted hx) (fun _ he => he) halloc
    (slot_of_context hcompleted).2
  dsimp only
  rw [Pool.refs_release h0, Pool.refs_claim halloc h0, hn]
  unfold holdersOf
  omega

/-- A DISSOLVE to a scene of the table keeps the counts (R128). -/
theorem poolSound_dissolveTo {r : Scene} (hs : PoolSound s) (hr : r ∈ s.scenes) :
    PoolSound (s.dissolveTo r) := by
  have hcompleted := poolSound_completeDissolve hs
  have halloc : s.completeDissolve.pool.slot r.slot ≠ none :=
    slot_of_scene hcompleted (by simpa using hr)
  have hidle := State.completeDissolve_incoming (s := s)
  unfold State.dissolveTo
  generalize s.completeDissolve = u at hcompleted halloc hidle
  refine poolSound_of_recounted hcompleted Pool.recounted_claim
    (fun n h0 hn => ?_) (fun x hx => slot_of_scene hcompleted hx) (fun _ he => he)
    (slot_of_context hcompleted).1 (fun c hc => ?_)
  · rw [hidle] at hn
    dsimp only
    rw [Pool.refs_claim halloc h0, hn]
    simp only [holdersOf, Option.map_some, Option.map_none, Option.some.injEq, reduceCtorEq,
      if_false]
    omega
  · obtain rfl := Option.some.inj hc
    exact halloc

/-- Law L3 speaks of pool, table, history and the contexts' slots alone. -/
theorem poolSound_congr (hs : PoolSound s) (hpool : t.pool = s.pool)
    (hscenes : t.scenes = s.scenes) (hhistory : t.history = s.history)
    (hcurrent : t.controller.current.slot = s.controller.current.slot)
    (hincoming : t.controller.incoming.map (·.slot) = s.controller.incoming.map (·.slot)) :
    PoolSound t := by
  obtain ⟨hslot, hslots⟩ := slot_of_context hs
  refine poolSound_of_recounted hs (hpool ▸ .refl _) (fun n _ hn => ?_)
    (fun r hr => slot_of_scene hs (hscenes ▸ hr)) (fun e he => hhistory ▸ he) (hcurrent ▸ hslot)
    (fun c hc => ?_)
  · rw [hpool, hn, hscenes, hhistory, hcurrent, hincoming]
  · obtain hc : t.controller.incoming = some c := hc
    obtain ⟨x, hx, hxc⟩ : ∃ x, s.controller.incoming = some x ∧ x.slot = c.slot := by
      rw [hc, Option.map_some] at hincoming
      exact Option.map_eq_some_iff.mp hincoming.symm
    exact hxc ▸ hslots x hx

/-- The running dissolve's count, or its completion, keeps the counts (R123). -/
theorem poolSound_advanceDissolve (hs : PoolSound s) : PoolSound s.advanceDissolve := by
  unfold State.advanceDissolve
  split
  next =>
    split
    next => exact hs
    next => exact poolSound_completeDissolve hs
  next => exact hs

/-- A lookup among the records of a table that begins at frame 0 keeps the counts (R125). -/
theorem poolSound_lookUp (hs : PoolSound s) (hzero : ∃ x ∈ s.scenes, x.start = 0) (b : Bool)
    (f : CurrentFrame) : PoolSound (s.lookUp b f) := by
  have hr := (sceneOf_mem hzero f.frame).1
  have hfired : PoolSound (s.fireTransition b f (sceneOf s.scenes f.frame)) := by
    have hreport : ∀ (x : State) (r : Scene) (k : Transition), PoolSound x →
        PoolSound (x.reportScene r f k) := fun x r k hx =>
      poolSound_congr hx (by simp) (by simp) (by simp) (by simp) (by simp)
    unfold State.fireTransition
    cases transitionKind b f (sceneOf s.scenes f.frame) s.controller.holdExit with
    | cut => exact hreport _ _ _ (poolSound_cutTo hs hr)
    | dissolve => exact hreport _ _ _ (poolSound_dissolveTo hs hr)
  unfold State.lookUp
  dsimp only
  split
  next => exact poolSound_congr hfired rfl rfl rfl rfl rfl
  next => exact hs

/-- The controller's boundary work keeps the counts (R121, R123 to R130). -/
theorem poolSound_controllerBoundary (hs : PoolSound s) (hzero : ∃ x ∈ s.scenes, x.start = 0)
    (b : Bool) : PoolSound (s.controllerBoundary b) := by
  have hrefresh : ∀ x : State, PoolSound x → PoolSound x.refreshContexts := by
    intro x hx
    refine poolSound_congr hx rfl rfl rfl (Context.refresh_slot _ _).1 ?_
    simp only [State.refreshContexts, Option.map_map]
    exact congrArg (Option.map · x.controller.incoming)
      (funext fun c => (Context.refresh_slot x.pool c).1)
  have hadvanced := poolSound_advanceDissolve hs
  have hzero' : ∃ x ∈ s.advanceDissolve.scenes, x.start = 0 := by simpa using hzero
  unfold State.controllerBoundary
  dsimp only
  refine hrefresh _ ?_
  split
  next => exact poolSound_completeDissolve hadvanced
  next =>
    split
    next f _ => exact poolSound_lookUp hadvanced hzero' b f
    next => exact hadvanced

/-! ## Every step -/

/-- Law L3 with what the boundary needs of the table: its order and a record at frame 0. -/
abbrev PoolKept (s : State) : Prop :=
  PoolSound s ∧ Sorted s.scenes ∧ ∃ x ∈ s.scenes, x.start = 0

/-- A cut proposal keeps the counts, and what the boundary needs of the table (R81). -/
theorem poolKept_propose (h : PoolKept s) (f : Nat) (o : Origin) : PoolKept (s.propose f o) := by
  obtain ⟨hs, ht, hzero⟩ := h
  rcases s.propose_cases f o with heq | heq | ⟨hfree, -, heq⟩ <;> rw [heq]
  · exact ⟨hs, ht, hzero⟩
  · exact ⟨poolSound_congr hs (by simp) (by simp) (by simp) (by simp) (by simp), by simpa using ht,
      by simpa using hzero⟩
  · obtain ⟨x, hx, hstart⟩ := hzero
    have hmem := (sceneOf_mem ⟨x, hx, hstart⟩ f).1
    have halloc := slot_of_scene hs hmem
    refine ⟨poolSound_insertRecord hs ht hfree halloc, ?_, x, ?_, hstart⟩
    · simpa [State.insertRecord] using sorted_insertScene ht _
    · simpa [State.insertRecord] using
        (mem_insertScene (sceneAt_none.mp hfree)).mpr (.inr hx)

/-- The detector's firing keeps the counts (R146). -/
theorem poolKept_fire (h : PoolKept s) (v : Measure) : PoolKept (s.fire v) := by
  have hwork := State.lineWork_cutReported (s := s) v
  have hreported : PoolKept (s.cutReported v) := by
    rw [hwork]
    exact h
  rw [State.fire_eq_propose]
  split
  next => exact poolKept_propose hreported _ _
  next => exact hreported

/-- The controller's boundary work keeps the counts and leaves the table. -/
theorem poolKept_controllerBoundary (h : PoolKept s) (b : Bool) :
    PoolKept (s.controllerBoundary b) := by
  obtain ⟨hs, ht, hzero⟩ := h
  exact ⟨poolSound_controllerBoundary hs hzero b, by simpa using ht, by simpa using hzero⟩

/-- A field boundary keeps the counts (R121, R147). -/
theorem poolSound_fieldBoundary (h : PoolKept s) : PoolSound s.fieldBoundary := by
  have hfollowed : PoolKept s.followBoundary :=
    ⟨poolSound_congr h.1 (by simp) (by simp) (by simp) (by simp) (by simp), by simpa using h.2.1,
      by simpa using h.2.2⟩
  have hwork : PoolSound s.followedWork := by
    have hcounted : PoolKept
      { s.followBoundary with freeCount := s.followBoundary.freeCount + 1 } := hfollowed
    rcases s.followBoundary.fireAndControl_cases s.firing s.arrives with
      ⟨-, heq⟩ | ⟨v, -, heq | heq⟩
    · rw [State.followedWork, heq]
      exact (poolKept_controllerBoundary hfollowed _).1
    · rw [State.followedWork, heq]
      exact (poolKept_controllerBoundary (poolKept_fire hcounted v) _).1
    · rw [State.followedWork, heq]
      exact (poolKept_fire (poolKept_controllerBoundary hcounted _) v).1
  rw [State.fieldBoundary_eq]
  exact poolSound_congr hwork (by simp [State.installed, State.filmTaken])
    (by simp [State.installed, State.filmTaken]) (by simp [State.installed, State.filmTaken])
    (by simp [State.installed, State.filmTaken]) (by simp [State.installed, State.filmTaken])

/-- A declaration of loss keeps the counts (R133). -/
theorem poolSound_loseLock (hs : PoolSound s) : PoolSound s.loseLock := by
  unfold State.loseLock
  dsimp only
  refine poolSound_completeDissolve (poolSound_congr hs ?_ ?_ ?_ ?_ ?_)
  all_goals simp

/-- The pool of a power-on reset and of a reel change is sound with the head scene alone (R47, R51, R68). -/
theorem poolSound_of_initial (hpool : t.pool = Pool.initial) (hscenes : t.scenes = [Scene.head])
    (hhistory : t.history.entries = []) (hcurrent : t.controller.current.slot = 0)
    (hincoming : t.controller.incoming = none) : PoolSound t := by
  have hrefs : ∀ n, n ≠ 0 → Pool.initial.refs n = 0 := by
    intro n h0
    refine Pool.refs_of_free ?_
    obtain ⟨m, rfl⟩ := Nat.exists_eq_succ_of_ne_zero h0
    rw [Pool.slot, Pool.initial, List.getD_cons_succ]
    simp only [List.getD_eq_getElem?_getD, List.getElem?_replicate]
    split <;> rfl
  refine poolSound_of_refs ?_ ?_ (fun n _ h0 => ?_) ?_ ?_ ?_ ?_ ?_
  · simp [hpool, Pool.initial]
  · rw [hpool]
    rfl
  · rw [hpool, hrefs n h0]
    simp [holders, hscenes, hhistory, hcurrent, hincoming, Scene.head, h0.symm]
  · simp [hscenes, Scene.head]
  · simp [hhistory]
  · simp [hcurrent]
  · simp [hincoming]
  · simp [hhistory]

/-- What a cue does keeps the counts. -/
theorem Touch.poolSound (hs : PoolSound s) (hscenes : ScenesSound s) (h : Touch s t) :
    PoolSound t := by
  have hok := tableOk_of_scenesSound hscenes
  cases h with
  | line hwork =>
    rw [hwork]
    exact hs
  | reel => exact poolSound_of_initial rfl rfl rfl rfl rfl
  | peerCut src reel f =>
    rcases s.takePeerCut_cases src reel f with heq | ⟨_, _, _, heq⟩ <;> rw [heq]
    · exact hs
    · exact (poolKept_propose ⟨hs, hok.2.2.1, tableOk_head hok⟩ f _).1
  | owner c => exact (ownerOf_owned c).poolSound hs hscenes
  | rethread | frame | hold | role | lineReset => exact hs

/-- What one command does keeps the counts. -/
theorem Deed.poolSound {c : Instr} (hs : PoolSound s) (hscenes : ScenesSound s)
    (h : Deed s c t) : PoolSound t := by
  have hok := tableOk_of_scenesSound hscenes
  cases h with
  | powerOn straps =>
    obtain ⟨l, w, heq⟩ := State.powerOn_cases straps
    rw [heq]
    exact poolSound_of_initial rfl rfl rfl rfl rfl
  | asserted => exact poolSound_of_initial rfl rfl rfl rfl rfl
  | cues _ _ hchain =>
    have hkept : ScenesKept (max 16 s.history.entries.length) s :=
      ⟨hscenes, Nat.le_max_left _ _, Nat.le_max_right _ _⟩
    exact (hchain.induction (P := fun x => PoolSound x ∧ ScenesKept _ x)
      (fun hx htouch => ⟨htouch.poolSound hx.1 hx.2.1, htouch.scenesKept hx.2⟩) ⟨hs, hkept⟩).1
  | fieldSync p =>
    rcases s.fieldSync_cases p with ⟨r, v, -, -, heq⟩ | ⟨r, v, -, -, -, heq⟩ | ⟨-, heq⟩ <;> rw [heq]
    · exact poolSound_fieldBoundary (s := { s with raster := r, video := v })
        ⟨hs, hok.2.2.1, tableOk_head hok⟩
    · exact hs
    · exact poolSound_loseLock hs
  | expiry =>
    rcases s.missingSync_cases with ⟨r, -, heq⟩ | ⟨-, heq⟩ <;> rw [heq]
    · exact hs
    · exact poolSound_loseLock (s := s.expired) hs
  | pixelClock => exact poolSound_congr hs (by simp) (by simp) (by simp) (by simp) (by simp)
  | lineSync | held | windowEnd => exact hs

end

/-- Settles O8: each command moves a reference with every holder it moves; the table is sound, so that a scene looked up, and a record undone, is one whose slot is allocated. -/
theorem stepKeepsPool : Obligations.StepKeepsPool := by
  unfold Obligations.StepKeepsPool
  intro s t hs hscenes hstep
  rcases step_cases hstep with rfl | ⟨c, rest, heffect⟩
  · exact hs
  · exact Deed.poolSound (s := { s with pending := rest }) hs hscenes heffect.deed

end Sys2Proof.Machine

/-! The transmit queue and the contention (Chapter 10): what an offer does, the moves that a line makes, and which of them each command is. -/

namespace Sys2Proof.Machine

open Safety

/-! ## The cue a full queue gives up (R178) -/

/-- Among queued cues and one found before, the search for the youngest yields one that joined last. -/
theorem foldl_younger (q : List TxEntry) (o : Option TxEntry) :
    (q.foldl younger o = none ↔ o = none ∧ q = []) ∧
    ∀ v, q.foldl younger o = some v →
      (o = some v ∨ v ∈ q) ∧ (∀ x ∈ q, x.joined ≤ v.joined) ∧ ∀ x ∈ o, x.joined ≤ v.joined := by
  induction q generalizing o with
  | nil =>
    refine ⟨by simp, fun v hv => ⟨.inl hv, nofun, fun x hx => ?_⟩⟩
    obtain rfl := Option.some.inj (hx.symm.trans hv)
    exact Nat.le_refl _
  | cons a q ih =>
    obtain ⟨hnone, hsome⟩ := ih (younger o a)
    have hyounger : ∃ y, younger o a = some y ∧ (o = some y ∨ y = a) ∧ a.joined ≤ y.joined ∧
        ∀ x ∈ o, x.joined ≤ y.joined := by
      cases o with
      | none => exact ⟨a, rfl, .inr rfl, Nat.le_refl _, nofun⟩
      | some b =>
        unfold younger
        dsimp only
        split
        next h =>
          refine ⟨a, rfl, .inr rfl, Nat.le_refl _, fun x hx => ?_⟩
          obtain rfl := Option.some.inj hx
          exact h.le
        next h =>
          refine ⟨b, rfl, .inl rfl, Nat.not_lt.mp h, fun x hx => ?_⟩
          obtain rfl := Option.some.inj hx
          exact Nat.le_refl _
    obtain ⟨y, hy, hfrom, hay, hoy⟩ := hyounger
    rw [List.foldl_cons]
    refine ⟨by rw [hnone, hy]; simp, fun v hv => ?_⟩
    obtain ⟨hmem, hq, hle⟩ := hsome v hv
    have hyv : y.joined ≤ v.joined := hle y hy
    refine ⟨?_, List.forall_mem_cons.mpr ⟨hay.trans hyv, hq⟩, fun x hx => (hoy x hx).trans hyv⟩
    rcases hmem with hmem | hmem
    · obtain rfl := Option.some.inj (hy.symm.trans hmem)
      rcases hfrom with h | rfl
      · exact .inl h
      · exact .inr List.mem_cons_self
    · exact .inr (List.mem_cons_of_mem _ hmem)

section
variable {cls : Nat} {flight : Option Nat} {q : List TxEntry} {v : TxEntry}

/-- The victim is the youngest of the cues of a strictly higher class that are not in flight (R178). -/
theorem victim_eq_some (h : victim cls flight q = some v) :
    (v ∈ q ∧ cls < v.cls ∧ some v.joined ≠ flight) ∧
    ∀ x ∈ q, cls < x.cls → some x.joined ≠ flight → x.joined ≤ v.joined := by
  obtain ⟨hmem, hmax, -⟩ := (foldl_younger _ none).2 v h
  rcases hmem with hmem | hmem
  · cases hmem
  · simp only [List.mem_filter, Bool.and_eq_true, decide_eq_true_eq, bne_iff_ne] at hmem hmax
    exact ⟨hmem, fun x hx hcls hflight => hmax x ⟨hx, hcls, hflight⟩⟩

/-- There is no victim when every cue of a strictly higher class is in flight (R178). -/
theorem victim_eq_none :
    victim cls flight q = none ↔ ∀ x ∈ q, cls < x.cls → some x.joined = flight := by
  unfold victim
  rw [(foldl_younger _ none).1]
  simp [List.filter_eq_nil_iff]

end

/-! ## A sound queue (laws L10, L11) -/

/-- The queue of law L10: at most 8 cues and one PRESENT, in sending order, each with its own joining number, attempts 0..3. -/
structure Line.QueueSound (l : Line) : Prop where
  length : l.tx.length ≤ 8
  present : l.tx.countP TxEntry.isPresent ≤ 1
  order : l.tx.Pairwise SendsBefore
  distinct : l.tx.Pairwise (fun a b => a.joined ≠ b.joined)
  entries : ∀ e ∈ l.tx, e.joined < l.nextJoin ∧ e.attempts ≤ 3

/-- The queue and the contention of laws L10 and L11. -/
structure Line.Sound (l : Line) : Prop where
  queue : l.QueueSound
  inFlight : ∀ j ∈ l.inFlight, l.deferral = none ∧ l.idle = false ∧ ∃ e ∈ l.tx, e.joined = j
  deferral : ∀ d ∈ l.deferral, l.idle = true ∧ ∃ e ∈ l.tx, e.joined = d.joined
  mute : l.mute = true → l.tx = [] ∧ l.inFlight = none ∧ l.deferral = none

/-- The receive FIFO of law L10: at most 4 cues, each one that the receiver lets in. -/
structure Line.FifoSound (a : Station) (l : Line) : Prop where
  length : l.fifo.length ≤ 4
  admissible : ∀ c ∈ l.fifo, admissible a c = true

/-- LINE RESETs wait only behind a service (R172). -/
def Line.WaitSound (l : Line) : Prop := l.lineResets ≠ [] → l.fifo ≠ []

/-- Laws L10 and L11 are those of the queue, of the FIFO and of the waiting LINE RESETs. -/
theorem lineSound_iff {s : State} :
    LineSound s ↔ s.line.Sound ∧ s.line.FifoSound s.straps.station ∧ s.line.WaitSound := by
  constructor
  · rintro ⟨hfifo, hlength, hpresent, horder, hdistinct, hentries, hflight, hdeferral, hmute, hwait,
      hadmissible⟩
    exact ⟨⟨⟨hlength, hpresent, horder, hdistinct, hentries⟩, hflight, hdeferral, hmute⟩,
      ⟨hfifo, hadmissible⟩, hwait⟩
  · rintro ⟨⟨⟨hlength, hpresent, horder, hdistinct, hentries⟩, hflight, hdeferral, hmute⟩,
      ⟨hfifo, hadmissible⟩, hwait⟩
    exact ⟨hfifo, hlength, hpresent, horder, hdistinct, hentries, hflight, hdeferral, hmute, hwait,
      hadmissible⟩

section
variable {a : Station} {l m : Line} {c : TxCue}

/-- A part of a sound queue is sound. -/
theorem Line.QueueSound.filter (h : l.QueueSound) (p : TxEntry → Bool) :
    Line.QueueSound { l with tx := l.tx.filter p } where
  length := (List.length_filter_le p l.tx).trans h.length
  present := (List.Sublist.countP_le List.filter_sublist).trans h.present
  order := h.order.filter p
  distinct := h.distinct.filter p
  entries e he := h.entries e (List.mem_of_mem_filter he)

/-- A place of the queue is named by its joining number. -/
theorem Line.QueueSound.eq_of_joined (h : l.QueueSound) {e x : TxEntry} (he : e ∈ l.tx)
    (hx : x ∈ l.tx) (hjoined : e.joined = x.joined) : e = x := by
  have hnodup : (l.tx.map (·.joined)).Nodup := List.pairwise_map.mpr h.distinct
  exact List.inj_on_of_nodup_map hnodup he hx hjoined

/-- The cue joins as youngest of its class: the queue stays sound when it had room, and no second PRESENT joins. -/
theorem Line.QueueSound.insert (h : l.QueueSound) (hroom : l.tx.length < 8)
    (hpresent : (∀ ask, c.body ≠ .present ask) ∨ l.presentQueued = false) :
    Line.QueueSound
      { l with tx := insertTx ⟨c, l.nextJoin, 0⟩ l.tx, nextJoin := l.nextJoin + 1 } where
  length := by
    dsimp only
    rw [length_insertTx]
    exact hroom
  present := by
    have hcount : (insertTx ⟨c, l.nextJoin, 0⟩ l.tx).countP TxEntry.isPresent =
        l.tx.countP TxEntry.isPresent + if TxEntry.isPresent ⟨c, l.nextJoin, 0⟩ then 1 else 0 := by
      have hsplit := List.countP_eq_countP_filter_add l.tx TxEntry.isPresent
        (fun x => decide (x.cls ≤ TxEntry.cls ⟨c, l.nextJoin, 0⟩))
      have hgt : (fun x : TxEntry => !decide (x.cls ≤ TxEntry.cls ⟨c, l.nextJoin, 0⟩)) =
          fun x => decide (TxEntry.cls ⟨c, l.nextJoin, 0⟩ < x.cls) := by
        funext x
        rw [Bool.eq_iff_iff]
        simp
      rw [hgt] at hsplit
      rw [insertTx, List.countP_append, List.countP_cons, hsplit]
      omega
    dsimp only
    rw [hcount]
    rcases hpresent with hother | hnone
    · have hnot : TxEntry.isPresent ⟨c, l.nextJoin, 0⟩ = false := by
        unfold TxEntry.isPresent
        split
        next ask hbody => exact absurd hbody (hother ask)
        next => rfl
      rw [hnot]
      exact h.present
    · have hzero : l.tx.countP TxEntry.isPresent = 0 :=
        List.countP_eq_zero.mpr fun x hx => List.any_eq_false.mp hnone x hx
      split <;> omega
  order := by
    dsimp only [insertTx]
    rw [List.pairwise_append, List.pairwise_cons]
    refine ⟨h.order.filter _, ⟨fun x hx => .inl ?_, h.order.filter _⟩, fun x hx y hy => ?_⟩
    · exact of_decide_eq_true (List.mem_filter.mp hx).2
    · obtain ⟨hmem, hle⟩ := List.mem_filter.mp hx
      have hle := of_decide_eq_true hle
      rcases List.mem_cons.mp hy with rfl | hy
      · rcases hle.lt_or_eq with hlt | heq
        · exact .inl hlt
        · exact .inr ⟨heq, (h.entries x hmem).1⟩
      · exact .inl (hle.trans_lt (of_decide_eq_true (List.mem_filter.mp hy).2))
  distinct := by
    have hnew : ∀ x ∈ l.tx, x.joined ≠ l.nextJoin := fun x hx => (h.entries x hx).1.ne
    dsimp only [insertTx]
    rw [List.pairwise_append, List.pairwise_cons]
    refine ⟨h.distinct.filter _, ⟨fun x hx => ?_, h.distinct.filter _⟩, fun x hx y hy => ?_⟩
    · exact (hnew x (List.mem_of_mem_filter hx)).symm
    · obtain ⟨hx, hle⟩ := List.mem_filter.mp hx
      rcases List.mem_cons.mp hy with rfl | hy
      · exact hnew x hx
      · obtain ⟨hy, hgt⟩ := List.mem_filter.mp hy
        have hlt := (of_decide_eq_true hle).trans_lt (of_decide_eq_true hgt)
        intro hjoined
        rw [h.eq_of_joined hx hy hjoined] at hlt
        exact Nat.lt_irrefl _ hlt
  entries e he := by
    rcases (mem_insertTx _ e l.tx).mp he with rfl | he
    · exact ⟨Nat.lt_succ_self _, Nat.zero_le _⟩
    · exact ⟨(h.entries e he).1.trans (Nat.lt_succ_self _), (h.entries e he).2⟩

/-- After contention every deferral is that of a queued cue, on an idle line (R165). -/
theorem Line.Sound.of_contend (hqueue : l.QueueSound)
    (hflight : ∀ j ∈ l.inFlight, l.deferral = none ∧ l.idle = false ∧ ∃ e ∈ l.tx, e.joined = j)
    (hidle : ∀ d ∈ l.deferral, l.idle = true)
    (hmute : l.mute = true → l.tx = [] ∧ l.inFlight = none) : (l.contend a).Sound := by
  obtain ⟨hkept, hfresh⟩ := Line.contend_deferral a l
  have hfields := Line.contend_fields a l
  obtain ⟨-, -, htx, hjoin, hin, hid, -, hmu⟩ := hfields
  by_cases hstays : ∃ d, l.deferral = some d ∧ ∃ e ∈ l.tx, e.joined = d.joined
  case pos =>
    obtain ⟨d, hd, he⟩ := hstays
    have hafter := hkept d hd he
    refine ⟨⟨htx ▸ hqueue.length, htx ▸ hqueue.present, htx ▸ hqueue.order, htx ▸ hqueue.distinct,
      htx ▸ hjoin ▸ hqueue.entries⟩, fun j hj => ?_, fun x hx => ?_, fun hm => ?_⟩
    · obtain ⟨hnone, -⟩ := hflight j (hin ▸ hj)
      rw [hd] at hnone
      cases hnone
    · obtain rfl := Option.some.inj (hafter.symm.trans hx)
      rw [hid, htx]
      exact ⟨hidle d hd, he⟩
    · obtain ⟨e, he, -⟩ := he
      rw [(hmute (hmu ▸ hm)).1] at he
      cases he
  case neg =>
    have hafter := hfresh fun d hd e he hjoined => hstays ⟨d, hd, e, he, hjoined⟩
    refine ⟨⟨htx ▸ hqueue.length, htx ▸ hqueue.present, htx ▸ hqueue.order, htx ▸ hqueue.distinct,
      htx ▸ hjoin ▸ hqueue.entries⟩, fun j hj => ?_, fun d hd => ?_, fun hm => ?_⟩
    · rw [hin] at hj
      obtain ⟨-, hbusy, hqueued⟩ := hflight j hj
      rw [hafter, hid, htx, hbusy]
      exact ⟨if_neg (by simp), rfl, hqueued⟩
    · rw [hafter] at hd
      obtain hd : (if _ then _ else _) = some d := hd
      split at hd
      next hcontends =>
        obtain ⟨e, he, rfl⟩ := Option.map_eq_some_iff.mp hd
        rw [hid, htx]
        exact ⟨hcontends.1, e, List.mem_of_head? he, rfl⟩
      next => cases hd
    · rw [hmu] at hm
      obtain ⟨hempty, hnone⟩ := hmute hm
      rw [htx, hin, hafter]
      exact ⟨hempty, hnone, if_neg (by simp [hm])⟩

/-- A cue joins a sound queue that has room. -/
theorem Line.Sound.join (hqueue : l.QueueSound) (hroom : l.tx.length < 8) (hunmuted : l.mute = false)
    (hflight : ∀ j ∈ l.inFlight, l.deferral = none ∧ l.idle = false ∧ ∃ e ∈ l.tx, e.joined = j)
    (hidle : ∀ d ∈ l.deferral, l.idle = true)
    (hpresent : (∀ ask, c.body ≠ .present ask) ∨ l.presentQueued = false) :
    (l.join a c).Sound := by
  refine Line.Sound.of_contend (hqueue.insert hroom hpresent) (fun j hj => ?_) hidle fun hm => ?_
  · obtain ⟨hnone, hbusy, e, he, hjoined⟩ := hflight j hj
    exact ⟨hnone, hbusy, e, (mem_insertTx _ e l.tx).mpr (.inr he), hjoined⟩
  · exact absurd hm (Bool.eq_false_iff.mp hunmuted)

/-- A queue that is not full has room (R177). -/
theorem Line.txFull_eq_false : l.txFull = false ↔ l.tx.length < 8 := by
  rw [Line.txFull, Config.txPlaces, decide_eq_false_iff_not, Nat.not_le]

/-- The places left once the victim is gone are those with another joining number. -/
theorem length_filter_joined {q : List TxEntry} {v : TxEntry} (hv : v ∈ q) :
    (q.filter (fun e => e.joined != v.joined)).length < q.length :=
  List.length_filter_lt_length_iff_exists.mpr ⟨v, hv, by simp⟩

/-- An offer to an unmuted queue keeps it sound, when it is no second PRESENT (R178). -/
theorem Line.Sound.offered (h : l.Sound) (hunmuted : l.mute = false)
    (hpresent : (∀ ask, c.body ≠ .present ask) ∨ l.presentQueued = false) :
    (l.offered a c).Sound := by
  have hidle : ∀ d ∈ l.deferral, l.idle = true := fun d hd => (h.deferral d hd).1
  unfold Line.offered
  split
  next =>
    split
    next v hv =>
      obtain ⟨⟨hmem, -, hnot⟩, -⟩ := victim_eq_some hv
      refine Line.Sound.join (h.queue.filter _) ?_ hunmuted (fun j hj => ?_) hidle ?_
      · exact (length_filter_joined hmem).trans_le h.queue.length
      · obtain ⟨hnone, hbusy, e, he, hjoined⟩ := h.inFlight j hj
        refine ⟨hnone, hbusy, e, List.mem_filter.mpr ⟨he, bne_iff_ne.mpr fun heq => hnot ?_⟩, hjoined⟩
        rw [← heq, hjoined]
        exact hj.symm
      · refine hpresent.imp_right fun hnone => List.any_eq_false.mpr fun e he => ?_
        exact List.any_eq_false.mp hnone e (List.mem_of_mem_filter he)
    next => exact h
  next hroom =>
    exact Line.Sound.join h.queue (Line.txFull_eq_false.mp (Bool.eq_false_iff.mpr hroom)) hunmuted
      h.inFlight hidle hpresent

end

/-! ## The moves of a line -/

/-- One move of the line of station `a`, a service's end left out. -/
inductive Line.Move (a : Station) (l : Line) : Line → Prop
  /-- A cue is offered that is no second PRESENT (R178, R184). -/
  | offer (c : TxCue) : l.mute = false →
      ((∀ ask, c.body ≠ .present ask) ∨ l.presentQueued = false) → Move a l (l.offered a c)
  /-- A line reset empties FIFO and queue (R180, R188). -/
  | clear : (l.WaitSound → l.lineResets = []) → Move a l { l.silence with fifo := [] }
  /-- The mute is set (R179). -/
  | mute : Move a l { l.silence with mute := true }
  /-- A cue joins the FIFO (R173). -/
  | receive {c : Cue} : l.fifo.length < 4 → admissible a c = true →
      Move a l { l with fifo := l.fifo ++ [c] }
  /-- A LINE RESET waits behind a service (R172). -/
  | wait (src : Station) : l.fifo ≠ [] → Move a l { l with lineResets := l.lineResets ++ [src] }
  /-- The waiting LINE RESETs are taken up (R172). -/
  | takeUp : Move a l { l with lineResets := [] }
  /-- The line is busy (R164, R165). -/
  | busy (w : Option (List Byte)) : (w = l.sentWhole ∨ w = none) →
      Move a l { l with idle := false, deferral := none, sentWhole := w }
  /-- A guard has completed, and the first cue contends (R164, R165). -/
  | guard : l.inFlight = none →
      Move a l (Line.contend a { l with idle := true, deferral := none })
  /-- The deferral has begun with a queued cue that was first before (R165, log 6). -/
  | defer {e : TxEntry} (n : Nat) : l.inFlight = none → l.idle = true → l.mute = false →
      (∃ x ∈ l.tx, x.joined = e.joined) → Move a l { l with deferral := some ⟨e.joined, n⟩ }
  /-- The cue deferred for is started (R165). -/
  | start {d : Deferral} : l.deferral = some d →
      Move a l { l with inFlight := some d.joined, deferral := none, idle := false, sentWhole := none }
  /-- The cue in flight leaves the queue (R166). -/
  | leave {j : Nat} (w : Option (List Byte)) : l.inFlight = some j →
      Move a l { l with tx := dropTx j l.tx, inFlight := none, sentWhole := w }
  /-- The cue in flight stays, its attempt counted (R166). -/
  | abandon {j : Nat} : l.inFlight = some j → exhausted j l.tx = false →
      Move a l { l with tx := bumpAttempts j l.tx, inFlight := none }

section
variable {a : Station} {l m : Line}

/-- A counted attempt moves no cue: class, joining number and kind stay (R166). -/
theorem bumpAttempts_eq (j : Nat) (q : List TxEntry) :
    bumpAttempts j q = q.map (fun e =>
      { e with attempts := if e.joined = j then e.attempts + 1 else e.attempts }) := by
  unfold bumpAttempts
  refine List.map_congr_left fun e _ => ?_
  split <;> rfl

/-- A counted attempt of a cue that has attempts left keeps the queue sound. -/
theorem Line.QueueSound.bump {j : Nat} (h : l.QueueSound) (hleft : exhausted j l.tx = false) :
    Line.QueueSound { l with tx := bumpAttempts j l.tx, inFlight := none } where
  length := by
    dsimp only
    rw [bumpAttempts_eq, List.length_map]
    exact h.length
  present := by
    dsimp only
    rw [bumpAttempts_eq, List.countP_map]
    exact h.present
  order := by
    dsimp only
    rw [bumpAttempts_eq]
    exact List.pairwise_map.mpr h.order
  distinct := by
    dsimp only
    rw [bumpAttempts_eq]
    exact List.pairwise_map.mpr h.distinct
  entries e he := by
    dsimp only at he
    rw [bumpAttempts_eq] at he
    obtain ⟨x, hx, rfl⟩ := List.mem_map.mp he
    refine ⟨(h.entries x hx).1, ?_⟩
    dsimp only
    split
    next hjoined =>
      have hnot := List.any_eq_false.mp hleft x hx
      simp only [hjoined, beq_self_eq_true, Bool.true_and, decide_eq_true_eq] at hnot
      omega
    next => exact (h.entries x hx).2

/-- A queue that holds a cue is not muted. -/
theorem Line.Sound.unmuted (h : l.Sound) {e : TxEntry} (he : e ∈ l.tx) : l.mute = false := by
  refine Bool.eq_false_iff.mpr fun hmute => ?_
  rw [(h.mute hmute).1] at he
  cases he

/-- Every move keeps the queue and the contention sound. -/
theorem Line.Move.sound (h : l.Sound) (hmove : Line.Move a l m) : m.Sound := by
  have hsilent : ∀ k : Line, k.tx = [] → k.inFlight = none → k.deferral = none → k.Sound := by
    intro k htx hflight hdeferral
    refine ⟨⟨?_, ?_, ?_, ?_, ?_⟩, ?_, ?_, fun _ => ⟨htx, hflight, hdeferral⟩⟩ <;> simp [*]
  cases hmove with
  | offer c hunmuted hpresent => exact h.offered hunmuted hpresent
  | clear => exact hsilent _ rfl rfl rfl
  | mute => exact hsilent _ rfl rfl rfl
  | receive | wait | takeUp =>
    exact ⟨⟨h.queue.length, h.queue.present, h.queue.order, h.queue.distinct, h.queue.entries⟩,
      h.inFlight, h.deferral, h.mute⟩
  | busy w =>
    refine ⟨⟨h.queue.length, h.queue.present, h.queue.order, h.queue.distinct, h.queue.entries⟩,
      fun j hj => ⟨rfl, rfl, (h.inFlight j hj).2.2⟩, nofun, fun hm => ?_⟩
    obtain ⟨htx, hflight, -⟩ := h.mute hm
    exact ⟨htx, hflight, rfl⟩
  | guard hfree =>
    refine Line.Sound.of_contend
      ⟨h.queue.length, h.queue.present, h.queue.order, h.queue.distinct, h.queue.entries⟩
      (fun j hj => ?_) nofun fun hm => ?_
    · cases hfree.symm.trans hj
    · obtain ⟨htx, hflight, -⟩ := h.mute hm
      exact ⟨htx, hflight⟩
  | defer n hfree hidle hunmuted hqueued =>
    refine ⟨⟨h.queue.length, h.queue.present, h.queue.order, h.queue.distinct, h.queue.entries⟩,
      fun j hj => ?_, fun d hd => ?_, fun hm => ?_⟩
    · cases hfree.symm.trans hj
    · obtain rfl := Option.some.inj hd
      exact ⟨hidle, hqueued⟩
    · exact absurd hm (Bool.eq_false_iff.mp hunmuted)
  | start hd =>
    obtain ⟨-, e, he, hjoined⟩ := h.deferral _ hd
    refine ⟨⟨h.queue.length, h.queue.present, h.queue.order, h.queue.distinct, h.queue.entries⟩,
      fun j hj => ?_, nofun, fun hm => ?_⟩
    · obtain rfl := Option.some.inj hj
      exact ⟨rfl, rfl, e, he, hjoined⟩
    · exact absurd hm (Bool.eq_false_iff.mp (h.unmuted he))
  | @leave j w hj =>
    obtain ⟨hnone, -, e, he, -⟩ := h.inFlight _ hj
    have hqueue := h.queue.filter (fun e => e.joined != j)
    refine ⟨⟨hqueue.length, hqueue.present, hqueue.order, hqueue.distinct, hqueue.entries⟩, nofun,
      fun d hd => ?_, fun hm => ?_⟩
    · cases hnone.symm.trans hd
    · exact absurd hm (Bool.eq_false_iff.mp (h.unmuted he))
  | abandon hj hleft =>
    obtain ⟨hnone, -, e, he, -⟩ := h.inFlight _ hj
    refine ⟨h.queue.bump hleft, nofun, fun d hd => ?_, fun hm => ?_⟩
    · cases hnone.symm.trans hd
    · exact absurd hm (Bool.eq_false_iff.mp (h.unmuted he))

/-- Every move keeps the FIFO sound. -/
theorem Line.Move.fifoSound (h : l.FifoSound a) (hmove : Line.Move a l m) : m.FifoSound a := by
  cases hmove with
  | offer c => exact ⟨by simpa using h.length, by simpa using h.admissible⟩
  | clear => exact ⟨Nat.zero_le _, nofun⟩
  | receive hroom hadmissible =>
    refine ⟨?_, fun x hx => ?_⟩
    · rw [List.length_append]
      exact hroom
    · rcases List.mem_append.mp hx with hx | hx
      · exact h.admissible x hx
      · rwa [List.mem_singleton.mp hx]
  | guard => exact ⟨by simpa using h.length, by simpa using h.admissible⟩
  | mute | wait | takeUp | busy | defer | start | leave | abandon =>
    exact ⟨h.length, h.admissible⟩

/-- Every move keeps LINE RESETs waiting behind a service alone. -/
theorem Line.Move.waitSound (h : l.WaitSound) (hmove : Line.Move a l m) : m.WaitSound := by
  cases hmove with
  | offer c => simpa [Line.WaitSound] using h
  | clear hnone => exact fun hsome => absurd (hnone h) hsome
  | receive => exact fun _ => by simp
  | wait src hfifo => exact fun _ => hfifo
  | takeUp => exact fun hsome => absurd rfl hsome
  | guard => simpa [Line.WaitSound] using h
  | mute | busy | defer | start | leave | abandon => exact h

/-- No move ends the mute (R179). -/
theorem Line.Move.mute_stays (h : l.mute = true) (hmove : Line.Move a l m) : m.mute = true := by
  cases hmove with
  | offer c => simpa using h
  | guard => simpa using h
  | mute => rfl
  | clear | receive | wait | takeUp | busy | defer | start | leave | abandon => exact h

end

/-! ## What an event does to the line -/

/-- From `s` to `t` the straps stay and the line moves. -/
def State.Moves (s t : State) : Prop :=
  t.straps = s.straps ∧ Relation.ReflTransGen (Line.Move s.straps.station) s.line t.line

section
variable {s t u : State}

/-- What leaves straps and line makes no move. -/
theorem State.Moves.of_eq (hstraps : t.straps = s.straps) (hline : t.line = s.line) :
    s.Moves t := ⟨hstraps, hline ▸ .refl⟩

/-- One move. -/
theorem State.Moves.single (hstraps : t.straps = s.straps)
    (hmove : Line.Move s.straps.station s.line t.line) : s.Moves t := ⟨hstraps, .single hmove⟩

/-- Moves add up. -/
theorem State.Moves.trans (hst : s.Moves t) (htu : t.Moves u) : s.Moves u := by
  obtain ⟨hstraps, hmoves⟩ := hst
  obtain ⟨hstraps', hmoves'⟩ := htu
  exact ⟨hstraps'.trans hstraps, hmoves.trans (hstraps ▸ hmoves')⟩

/-- TX_OVERFLOW's event offers its FAULT or nothing (R178). -/
theorem State.moves_overflow (hunmuted : s.line.mute = false) : s.Moves s.overflow := by
  unfold State.overflow
  split
  next => exact .of_eq rfl rfl
  next =>
    dsimp only
    split
    next => exact .single rfl (.offer _ hunmuted (.inl nofun))
    next => exact .of_eq rfl rfl

/-- An offer moves the line when it is no second PRESENT (R178, R179). -/
theorem State.moves_offer {c : TxCue}
    (hpresent : (∀ ask, c.body ≠ .present ask) ∨ s.line.presentQueued = false) :
    s.Moves (s.offer c) := by
  unfold State.offer
  split
  next => exact .of_eq rfl rfl
  next hunmuted =>
    have hunmuted := Bool.eq_false_iff.mpr hunmuted
    have hoffered : s.Moves { s with line := s.line.offered s.straps.station c } :=
      .single rfl (.offer c hunmuted hpresent)
    dsimp only
    split
    next =>
      refine hoffered.trans (State.moves_overflow ?_)
      simpa using hunmuted
    next => exact hoffered

/-- A latch's event offers its FAULT or nothing (R191). -/
theorem State.moves_raise (l : Latch) : s.Moves (s.raise l) := by
  have hlatched : s.Moves (s.latch l) := .of_eq (by simp) (by simp)
  unfold State.raise
  split
  next => exact .of_eq rfl rfl
  next =>
    dsimp only
    split
    next => exact hlatched.trans (State.moves_offer (.inl nofun))
    next => exact hlatched

/-- A reply is offered (R175). -/
theorem State.moves_reply (c : Cue) (a : Answer) : s.Moves (s.reply c a) := by
  unfold State.reply
  split
  next => exact .of_eq rfl rfl
  next =>
    split
    next => exact .of_eq rfl rfl
    next => exact State.moves_offer (.inl nofun)

/-- A proposal offers at most TABLE_FULL's FAULT (R81). -/
theorem State.moves_propose (f : Nat) (o : Origin) : s.Moves (s.propose f o) := by
  rcases s.propose_cases f o with heq | heq | ⟨-, -, heq⟩ <;> rw [heq]
  · exact .of_eq rfl rfl
  · exact State.moves_raise _
  · exact .of_eq (by simp) (by simp)

/-- The detector's firing offers its CUT and what its proposal offers (R146). -/
theorem State.moves_fire (v : Measure) : s.Moves (s.fire v) := by
  have hreported : s.Moves (s.cutReported v) := by
    unfold State.cutReported
    split
    next => exact State.moves_offer (.inl nofun)
    next => exact .of_eq rfl rfl
  rw [State.fire_eq_propose]
  split
  next => exact hreported.trans (State.moves_propose _ _)
  next => exact hreported

/-- The controller's work offers at most SCENE ENTERED (R129). -/
theorem State.moves_controllerBoundary (b : Bool) : s.Moves (s.controllerBoundary b) := by
  have hreport : ∀ (x : State) (r : Scene) (f : CurrentFrame) (k : Transition),
      x.Moves (x.reportScene r f k) := by
    intro x r f k
    unfold State.reportScene
    split
    next => exact State.moves_offer (.inl nofun)
    next => exact .of_eq rfl rfl
  have hfire : ∀ (x : State) (f : CurrentFrame) (r : Scene), x.Moves (x.fireTransition b f r) := by
    intro x f r
    unfold State.fireTransition
    cases transitionKind b f r x.controller.holdExit with
    | cut => exact State.Moves.trans (.of_eq (by simp) (by simp)) (hreport (x.cutTo r) r f .cut)
    | dissolve =>
      exact State.Moves.trans (.of_eq (by simp) (by simp)) (hreport (x.dissolveTo r) r f .dissolve)
  have hadvance : s.Moves s.advanceDissolve := .of_eq (by simp) (by simp)
  unfold State.controllerBoundary
  dsimp only
  refine hadvance.trans (State.Moves.trans ?_ (.of_eq rfl rfl))
  split
  next => exact .of_eq (by simp) (by simp)
  next =>
    split
    next f _ =>
      unfold State.lookUp
      dsimp only
      split
      next => exact (hfire _ f _).trans (.of_eq rfl rfl)
      next => exact .of_eq rfl rfl
    next => exact .of_eq rfl rfl

/-- Firing and controller move the line as each does (R147). -/
theorem State.moves_fireAndControl (m : Option Measure) (b : Bool) :
    s.Moves (s.fireAndControl m b) := by
  have hcounted : s.Moves { s with freeCount := s.freeCount + 1 } := .of_eq rfl rfl
  rcases s.fireAndControl_cases m b with ⟨-, heq⟩ | ⟨v, -, heq | heq⟩ <;> rw [heq]
  · exact State.moves_controllerBoundary b
  · exact (hcounted.trans (State.moves_fire v)).trans (State.moves_controllerBoundary b)
  · exact (hcounted.trans (State.moves_controllerBoundary b)).trans (State.moves_fire v)

/-- The follower's boundary work offers at most COAST_HOLD's FAULT (R114). -/
theorem State.moves_followBoundary : s.Moves s.followBoundary := by
  unfold State.followBoundary
  dsimp only
  split
  next =>
    have hsettled : s.Moves { s with follower := s.follower.advance.settle } := .of_eq rfl rfl
    exact hsettled.trans (State.moves_raise _)
  next => exact .of_eq rfl rfl

/-- An install offers at most the requester's DONE (R39). -/
theorem State.moves_installBoundary : s.Moves s.installBoundary := by
  unfold State.installBoundary
  split
  next target _ _ =>
    have htable : s.Moves { s.installTable target s.loader.buffer with loader := Loader.idle } :=
      .of_eq (by simp) (by simp)
    dsimp only
    split
    next => exact htable.trans (State.moves_offer (.inl nofun))
    next => exact htable
  next => exact .of_eq rfl rfl

/-- A boundary moves the line by its blocks' offers alone (R160). -/
theorem State.moves_fieldBoundary : s.Moves s.fieldBoundary := by
  have hfollowed := State.moves_followBoundary (s := s)
  have hwork : s.Moves s.followedWork := hfollowed.trans (State.moves_fireAndControl _ _)
  have hfilm : s.Moves s.followedWork.filmTaken := hwork.trans (.of_eq rfl rfl)
  have hinstalled : s.Moves s.installed := hfilm.trans State.moves_installBoundary
  exact hinstalled.trans (.of_eq rfl rfl)

/-- A declaration of loss offers at most SYNC_LOST's FAULT (R161). -/
theorem State.moves_loseLock : s.Moves s.loseLock := by
  obtain ⟨hline, -⟩ := s.loseLock_event
  have hraise := State.moves_raise (s := s) .syncLost
  refine ⟨by simp, ?_⟩
  rw [hline]
  exact hraise.2

/-- An undo leaves straps and line (R90). -/
theorem State.undoEntry_frame (e : Entry) :
    (s.undoEntry e).straps = s.straps ∧ (s.undoEntry e).line = s.line := by
  rw [State.undoEntry_work]
  exact ⟨rfl, rfl⟩

/-- What an owner does offers at most CANCELLED (R41). -/
theorem Owned.moves {named : Option Byte} (h : Owned s named t) : s.Moves t := by
  cases h with
  | cancelled =>
    have hreply : s.Moves s.replyCancelled := by
      unfold State.replyCancelled
      split
      next => exact State.moves_offer (.inl nofun)
      next => exact .of_eq rfl rfl
    exact hreply.trans (.of_eq rfl rfl)
  | undone => exact .of_eq (State.undoEntry_frame _).1 (State.undoEntry_frame _).2
  | marked => exact .of_eq (by simp) (by simp)
  | cleared => exact .of_eq (by simp [State.clearRecord]) (by simp [State.clearRecord])
  | set => exact .of_eq (by simp) (by simp)
  | purged => exact .of_eq (by simp) (by simp)
  | primary => exact .of_eq (by simp) (by simp)
  | vectors => exact .of_eq (by simp [State.editVectors]) (by simp [State.editVectors])
  | same | allocated | dropped | loadStarted | loaded | installed | enables | profile | latches =>
    exact .of_eq rfl rfl

/-- A cue's service moves the line by offers alone (R174). -/
theorem moves_serviceWork (c : Cue) : s.Moves (serviceWork c s) := by
  rcases serviceWork_cases c with ⟨r, f, m, -, h⟩ | ⟨-, h⟩ <;> rw [h]
  · rcases s.takePeerCut_cases c.src r.toNat f.toNat with heq | ⟨_, _, _, heq⟩ <;> rw [heq]
    · exact .of_eq rfl rfl
    · exact State.moves_propose _ _
  · rcases handle_cases c (ownerOf c) s with ⟨r, hr⟩ | ⟨-, -, ho⟩
    · rw [hr]
      exact State.moves_reply c _
    · rw [ho]
      exact (ownerOf_owned c).moves.trans (State.moves_reply c _)

/-! ## Line resets -/

/-- A line reset moves the line, when none waits behind a service that has ended (R180, R188). -/
theorem State.moves_takeLineReset (a : Station)
    (hnone : s.line.WaitSound → s.line.lineResets = []) : s.Moves (s.takeLineReset a) := by
  rcases s.takeLineReset_cases a with ⟨-, h⟩ | ⟨-, h⟩
  · exact .of_eq (by rw [h]) (by rw [h])
  · rw [h]
    have hcleared : s.Moves s.lineCleared := .single rfl (.clear hnone)
    exact hcleared.trans (State.moves_offer (.inr rfl))

/-- A line reset leaves the list of those that wait (R172). -/
theorem State.takeLineReset_lineResets (a : Station) :
    (s.takeLineReset a).line.lineResets = s.line.lineResets := by
  have hoffer : ∀ (x : State) (c : TxCue), (x.offer c).line.lineResets = x.line.lineResets := by
    intro x c
    unfold State.offer State.overflow
    dsimp only
    repeat' split
    all_goals simp
  rcases s.takeLineReset_cases a with ⟨-, h⟩ | ⟨-, h⟩ <;> rw [h]
  exact hoffer _ _

/-- The LINE RESETs that waited are taken up and taken, and none waits after them (R172). -/
theorem State.moves_takeWaiting :
    s.Moves s.takeWaiting ∧ s.takeWaiting.line.lineResets = [] := by
  have hfold : ∀ (as : List Station) (x : State), x.line.lineResets = [] →
      x.Moves (as.foldl (fun s a => s.takeLineReset a) x) ∧
      (as.foldl (fun s a => s.takeLineReset a) x).line.lineResets = [] := by
    intro as
    induction as with
    | nil => exact fun x hx => ⟨.of_eq rfl rfl, hx⟩
    | cons a as ih =>
      intro x hx
      obtain ⟨hmoves, hnone⟩ := ih (x.takeLineReset a) (State.takeLineReset_lineResets a |>.trans hx)
      exact ⟨(State.moves_takeLineReset a fun _ => hx).trans hmoves, hnone⟩
  have htaken : s.Moves { s with line := { s.line with lineResets := [] } } := .single rfl .takeUp
  obtain ⟨hmoves, hnone⟩ := hfold s.line.lineResets
    { s with line := { s.line with lineResets := [] } } rfl
  exact ⟨htaken.trans hmoves, hnone⟩

/-! ## What is heard -/

/-- An own number heard mutes the line, before or after ADDRESS's FAULT (R179, R187, log 8). -/
theorem State.moves_duplicateFound : s.Moves s.duplicateFound := by
  have hmuted : ∀ x : State, x.Moves x.muted := fun _ => .single rfl .mute
  have hcounted : s.Moves { s with freeCount := s.freeCount + 1 } := .of_eq rfl rfl
  unfold State.duplicateFound
  dsimp only
  split
  next =>
    split
    next => exact (hcounted.trans (State.moves_raise .address)).trans (hmuted _)
    next => exact (hcounted.trans (hmuted _)).trans (State.moves_raise .address)
  next => exact (hmuted s).trans (State.moves_raise .address)

/-- A cue that the receiver lets in joins the FIFO, or finds it full (R173). -/
theorem State.moves_enqueueRx {c : Cue} (h : admissible s.straps.station c = true) :
    s.Moves (s.enqueueRx c) := by
  unfold State.enqueueRx
  split
  next => exact State.moves_raise _
  next hroom => exact .single rfl (.receive (Nat.not_le.mp hroom) h)

/-- A cue taken at its arrival moves the line; a queued one has to be admissible (R172). -/
theorem State.moves_takeArrival {src dst : Station} {a : Arrival}
    (h : ∀ r, a = .queued r → admissible s.straps.station ⟨src, dst, r⟩ = true) :
    s.Moves (s.takeArrival src dst a) := by
  cases a with
  | reel id len =>
    dsimp only [State.takeArrival, State.takeReel]
    repeat' split
    · exact .of_eq rfl rfl
    · exact State.moves_raise _
    · exact .of_eq rfl rfl
    · exact .of_eq rfl rfl
  | frame n d v l k =>
    dsimp only [State.takeArrival, State.takeFrame]
    repeat' split
    · exact .of_eq rfl rfl
    · exact .of_eq rfl rfl
    · exact State.moves_raise _
    · exact State.moves_raise _
    · exact .of_eq rfl rfl
  | present r ask =>
    dsimp only [State.takeArrival, State.takePresent]
    split
    next => exact .of_eq rfl rfl
    next =>
      split
      next => exact .of_eq rfl rfl
      next =>
        have hrole : s.Moves { s with roster := s.roster.set src.toNat (some (Role.ofCode r)) } :=
          .of_eq rfl rfl
        unfold State.answerAsk
        split
        next => exact hrole
        next hnone => exact hrole.trans (State.moves_offer (.inr (Bool.eq_false_iff.mpr hnone)))
  | lineReset =>
    dsimp only [State.takeArrival, State.lineResetArrives]
    split
    next hempty =>
      refine State.moves_takeLineReset src fun hwait => ?_
      by_contra hsome
      exact hwait hsome (List.isEmpty_iff.mp hempty)
    next hfull => exact .single rfl (.wait src fun hnil => hfull (List.isEmpty_iff.mpr hnil))
  | hold =>
    dsimp only [State.takeArrival, State.takeHold]
    split <;> exact .of_eq rfl rfl
  | release =>
    dsimp only [State.takeArrival, State.takeHold]
    split <;> exact .of_eq rfl rfl
  | queued r => exact State.moves_enqueueRx (h r rfl)

end
end Sys2Proof.Machine

/-! What every step keeps of the line and the roster (Chapters 10 and 11), and what no cue touches. -/

namespace Sys2Proof.Machine

open Safety

/-! ## Frames into requests (Section 10.2) -/

/-- Every two bytes are one value (R35). -/
theorem length_wordsOf (p : List Byte) : (wordsOf p).length = p.length / 2 := by
  induction p using wordsOf.induct with
  | case1 a b rest ih =>
    rw [wordsOf, List.length_cons, ih, List.length_cons, List.length_cons]
    omega
  | case2 p hshort =>
    match p with
    | [] => simp [wordsOf]
    | [_] => simp [wordsOf]
    | a :: b :: rest => exact absurd rfl (hshort a b rest)

/-- The kinds of the cues that go through the FIFO (Table 10-4). -/
def requestKinds : List Byte :=
  [0x10, 0x11, 0x12, 0x13, 0x14, 0x18, 0x19, 0x1A, 0x1B, 0x1C, 0x1D, 0x20, 0x21, 0x22, 0x23, 0x28,
    0x29, 0x2A, 0x2B, 0x30]

/-- Any other kind spells no request (R171 test 5). -/
theorem requestOf_unknown {k : Byte} (p : List Byte) (h : k ∉ requestKinds) :
    requestOf k.toNat p = none := by
  have hkind : ∀ b ∈ requestKinds, k.toNat ≠ b.toNat := fun b hb heq =>
    h (BitVec.eq_of_toNat_eq heq ▸ hb)
  simp only [requestKinds, List.forall_mem_cons] at hkind
  unfold requestOf requestOf.match_1
  simp at hkind
  simp only [hkind, dite_false]

/-- A request read from a payload of permitted length is well formed (R168, R171). -/
theorem wellFormed_of_requestOf {k : Byte} {p : List Byte} {r : Request}
    (hlength : permittedLength k p.length ≠ some false) (h : requestOf k.toNat p = some r) :
    r.wellFormed = true := by
  by_cases hk : k ∈ requestKinds
  case neg => cases (requestOf_unknown p hk).symm.trans h
  simp only [requestKinds, List.mem_cons, List.not_mem_nil, or_false] at hk
  rcases hk with rfl | rfl | rfl | rfl | rfl | rfl | rfl | rfl | rfl | rfl | rfl | rfl | rfl |
    rfl | rfl | rfl | rfl | rfl | rfl | rfl <;>
    simp only [permittedLength, BitVec.reduceToNat] at hlength <;> simp at hlength
  · match p, hlength with
    | [_, _, _, _, _], _ =>
      cases h
      rfl
  · match p, hlength with
    | [_, _], _ =>
      cases h
      rfl
  · match p, hlength with
    | [_, _, _, _, _, _], _ =>
      cases h
      rfl
  · subst hlength
    cases h
    rfl
  · match p, hlength with
    | [_, _, _], _ =>
      cases h
      rfl
  · subst hlength
    cases h
    rfl
  · match p, hlength with
    | [_, _, _, _, _, _, _, _, _, _, _, _, _, _, _, _], _ =>
      cases h
      rfl
  · by_cases hshort : p.length = 18
    · match p, hshort with
      | [_, _, _, _, _, _, _, _, _, _, _, _, _, _, _, _, _, _], _ =>
        cases h
        rfl
    · match p, hlength hshort with
      | [_, _, _, _, _, _, _, _, _, _, _, _, _, _, _, _, _, _, _, _, _, _, _, _], _ =>
        cases h
        rfl
  · match p, hlength with
    | [_, _], _ =>
      cases h
      rfl
  · match p, hlength with
    | [_], _ =>
      cases h
      rfl
  · match p, hlength with
    | [_, _, _], _ =>
      cases h
      rfl
  · match p, hlength with
    | [_, _, _, _, _], _ =>
      cases h
      rfl
  · obtain rfl : Request.loadData (wordsOf p) = r := Option.some.inj h
    simp only [Request.wellFormed, length_wordsOf, Bool.and_eq_true, decide_eq_true_eq]
    omega
  · subst hlength
    cases h
    rfl
  · subst hlength
    cases h
    rfl
  · match p, hlength with
    | [_], _ =>
      cases h
      rfl
  · match p, hlength with
    | n :: d, hlength =>
      obtain rfl : Request.portWrite n d = r := Option.some.inj h
      rw [List.length_cons] at hlength
      simp only [Request.wellFormed, Bool.and_eq_true, decide_eq_true_eq]
      omega
  · subst hlength
    cases h
    rfl
  · match p, hlength with
    | [_], _ =>
      cases h
      rfl
  · match p, hlength with
    | [_, _, _, _, _, _], _ =>
      cases h
      rfl
/-- The kinds of the cues that are taken at their arrival (R172). -/
def arrivalKinds : List Byte := [0x01, 0x02, 0x08, 0x09, 0x0A, 0x38]

/-- Any other kind is a request's, or is ignored (R171, R172). -/
theorem arrivalOf_unknown {k : Byte} (p : List Byte) (hk : k ∉ arrivalKinds) :
    arrivalOf k p = (requestOf k.toNat p).map .queued := by
  have hkind : ∀ b ∈ arrivalKinds, k.toNat ≠ b.toNat := fun b hb heq =>
    hk (BitVec.eq_of_toNat_eq heq ▸ hb)
  simp [arrivalKinds] at hkind
  unfold arrivalOf arrivalOf.match_1
  simp only [hkind, dite_false]

/-- What is queued at its arrival spells a request (R172). -/
theorem requestOf_of_arrivalOf {k : Byte} {p : List Byte} {r : Request}
    (hlength : permittedLength k p.length ≠ some false) (h : arrivalOf k p = some (.queued r)) :
    requestOf k.toNat p = some r := by
  by_cases hk : k ∈ arrivalKinds
  case neg =>
    rw [arrivalOf_unknown p hk] at h
    obtain ⟨x, hx, hr⟩ := Option.map_eq_some_iff.mp h
    cases hr
    exact hx
  simp only [arrivalKinds, List.mem_cons, List.not_mem_nil, or_false] at hk
  rcases hk with rfl | rfl | rfl | rfl | rfl | rfl <;>
    simp only [permittedLength, BitVec.reduceToNat] at hlength <;> simp at hlength
  · match p, hlength with
    | [_, _, _, _], _ => cases h
  · match p, hlength with
    | [_, _, _], _ => cases h
  · subst hlength
    cases h
  · subst hlength
    cases h
  · subst hlength
    cases h
  · match p, hlength with
    | [_, _], _ => cases h

/-- A sound frame to this engine from another station spells nothing that the receiver would not let in (R171). -/
theorem admissible_of_sound {own : Station} {p : Parts} {r : Request} (hsound : p.sound = true)
    (hown : p.src ≠ own) (hall : p.src ≠ 15) (hdst : p.dst = own ∨ p.dst = 15)
    (ha : arrivalOf p.kind p.payload = some (.queued r)) :
    admissible own ⟨p.src, p.dst, r⟩ = true := by
  simp only [Parts.sound, Bool.and_eq_true, bne_iff_ne] at hsound
  have hlength := hsound.2
  have hwell := wellFormed_of_requestOf hlength (requestOf_of_arrivalOf hlength ha)
  simp only [admissible, Bool.and_eq_true, bne_iff_ne, Bool.or_eq_true, beq_iff_eq]
  exact ⟨⟨⟨hown, hall⟩, hdst⟩, hwell⟩

/-! ## What offers leave of the line -/

/-- From `s` to `t` the line keeps what it has received, what waits, the cue in flight, the guard and the mute. -/
def State.LineKept (s t : State) : Prop :=
  t.line.fifo = s.line.fifo ∧ t.line.lineResets = s.line.lineResets ∧
  t.line.inFlight = s.line.inFlight ∧ t.line.idle = s.line.idle ∧
  t.line.sentWhole = s.line.sentWhole ∧ t.line.mute = s.line.mute

section
variable {s t u : State}

/-- What leaves the line keeps it. -/
theorem State.LineKept.of_eq (h : t.line = s.line) : s.LineKept t := by
  rw [State.LineKept, h]
  exact ⟨rfl, rfl, rfl, rfl, rfl, rfl⟩

/-- Keeping adds up. -/
theorem State.LineKept.trans (hst : s.LineKept t) (htu : t.LineKept u) : s.LineKept u := by
  obtain ⟨hfifo, hwait, hflight, hidle, hwhole, hmute⟩ := hst
  obtain ⟨hfifo', hwait', hflight', hidle', hwhole', hmute'⟩ := htu
  exact ⟨hfifo'.trans hfifo, hwait'.trans hwait, hflight'.trans hflight, hidle'.trans hidle,
    hwhole'.trans hwhole, hmute'.trans hmute⟩

/-- TX_OVERFLOW's event keeps the line but for queue and contention (R178). -/
theorem State.lineKept_overflow : s.LineKept s.overflow := by
  unfold State.overflow
  dsimp only
  split
  next => exact .of_eq rfl
  next =>
    split
    next => exact Line.offered_fields _ _ _
    next => exact .of_eq rfl

/-- An offer keeps the line but for queue and contention (R178). -/
theorem State.lineKept_offer (c : TxCue) : s.LineKept (s.offer c) := by
  have hoffered : s.LineKept { s with line := s.line.offered s.straps.station c } :=
    Line.offered_fields _ _ _
  unfold State.offer
  dsimp only
  split
  next => exact .of_eq rfl
  next =>
    split
    next => exact hoffered.trans State.lineKept_overflow
    next => exact hoffered

/-- An event keeps the line but for queue and contention (R191). -/
theorem State.lineKept_raise (l : Latch) : s.LineKept (s.raise l) := by
  unfold State.raise
  dsimp only
  split
  next => exact .of_eq rfl
  next =>
    split
    next => exact State.LineKept.trans (.of_eq rfl) (State.lineKept_offer _)
    next => exact .of_eq rfl

/-- A reply keeps the line but for queue and contention (R175). -/
theorem State.lineKept_reply (c : Cue) (a : Answer) : s.LineKept (s.reply c a) := by
  unfold State.reply
  split
  next => exact .of_eq rfl
  next =>
    split
    next => exact .of_eq rfl
    next => exact State.lineKept_offer _

/-- Hearing the own number silences the line and keeps the rest of it (R187). -/
theorem State.duplicateFound_line :
    s.duplicateFound.line.fifo = s.line.fifo ∧
    s.duplicateFound.line.lineResets = s.line.lineResets ∧
    s.duplicateFound.line.inFlight = none ∧ s.duplicateFound.line.idle = s.line.idle ∧
    s.duplicateFound.line.mute = true := by
  have hmuted : ∀ x : State, x.muted.line.fifo = x.line.fifo ∧
      x.muted.line.lineResets = x.line.lineResets ∧ x.muted.line.inFlight = none ∧
      x.muted.line.idle = x.line.idle ∧ x.muted.line.mute = true := fun _ => ⟨rfl, rfl, rfl, rfl, rfl⟩
  have hraised : ∀ x : State, (x.muted.raise .address).line.fifo = x.line.fifo ∧
      (x.muted.raise .address).line.lineResets = x.line.lineResets ∧
      (x.muted.raise .address).line.inFlight = none ∧
      (x.muted.raise .address).line.idle = x.line.idle ∧
      (x.muted.raise .address).line.mute = true := by
    intro x
    obtain ⟨hfifo, hwait, hflight, hidle, -, hmute⟩ := State.lineKept_raise (s := x.muted) .address
    exact ⟨hfifo, hwait, hflight, hidle, hmute⟩
  unfold State.duplicateFound
  dsimp only
  split
  next =>
    split
    next =>
      have hkept := State.lineKept_raise (s := { s with freeCount := s.freeCount + 1 }) .address
      obtain ⟨hfifo, hwait, -, hidle, -, -⟩ := hkept
      exact ⟨hfifo, hwait, rfl, hidle, rfl⟩
    next => exact hraised { s with freeCount := s.freeCount + 1 }
  next => exact hraised s

/-- No cue heard is put in flight by it. -/
theorem State.takeArrival_inFlight {src dst : Station} {a : Arrival} (h : s.line.inFlight = none) :
    (s.takeArrival src dst a).line.inFlight = none := by
  have hkept : ∀ x : State, s.LineKept x → x.line.inFlight = none :=
    fun x hx => hx.2.2.1.trans h
  cases a with
  | reel id len =>
    dsimp only [State.takeArrival, State.takeReel]
    repeat' split
    · exact h
    · exact hkept _ (State.lineKept_raise _)
    · exact h
    · exact h
  | frame n d v l k =>
    dsimp only [State.takeArrival, State.takeFrame]
    repeat' split
    · exact h
    · exact h
    · exact hkept _ (State.lineKept_raise _)
    · exact hkept _ (State.lineKept_raise _)
    · exact h
  | present r ask =>
    dsimp only [State.takeArrival, State.takePresent, State.answerAsk]
    repeat' split
    · exact h
    · exact h
    · exact h
    · exact hkept _ (.trans (.of_eq rfl) (State.lineKept_offer _))
  | lineReset =>
    dsimp only [State.takeArrival, State.lineResetArrives]
    split
    next =>
      rcases s.takeLineReset_cases src with ⟨-, heq⟩ | ⟨-, heq⟩ <;> rw [heq]
      · exact h
      · exact (State.lineKept_offer (s := s.lineCleared) _).2.2.1
    next => exact h
  | hold =>
    dsimp only [State.takeArrival, State.takeHold]
    split <;> exact h
  | release =>
    dsimp only [State.takeArrival, State.takeHold]
    split <;> exact h
  | queued r =>
    dsimp only [State.takeArrival, State.enqueueRx]
    split
    next => exact hkept _ (State.lineKept_raise _)
    next => exact h

/-- No frame heard puts a cue in flight. -/
theorem State.heardAtGuard_inFlight (heard : Option Frame) (h : s.line.inFlight = none) :
    (s.heardAtGuard heard).line.inFlight = none := by
  have hguard : s.atGuard.line.inFlight = none := h
  unfold State.heardAtGuard
  split
  next f =>
    split
    next => exact hguard
    next =>
      rcases s.atGuard.receive_cases f with heq | heq | heq | ⟨p, a, -, -, -, -, -, heq⟩ <;> rw [heq]
      · exact (State.lineKept_raise (s := s.atGuard) .lineCheck).2.2.1.trans hguard
      · exact State.duplicateFound_line.2.2.1
      · exact hguard
      · exact State.takeArrival_inFlight hguard
  next => exact hguard

/-- A service's work keeps the FIFO and the LINE RESETs that wait (R172). -/
theorem State.lineKept_serviceWork (c : Cue) : s.LineKept (serviceWork c s) := by
  have howned : ∀ {t : State} {named : Option Byte}, Owned s named t → s.LineKept t := by
    intro t named h
    cases h with
    | cancelled =>
      have hreply : s.LineKept s.replyCancelled := by
        unfold State.replyCancelled
        split
        next => exact State.lineKept_offer _
        next => exact .of_eq rfl
      exact hreply.trans (.of_eq rfl)
    | undone => exact .of_eq (State.undoEntry_frame _).2
    | marked => exact .of_eq (by simp)
    | cleared => exact .of_eq (by simp [State.clearRecord])
    | set => exact .of_eq (by simp)
    | purged => exact .of_eq (by simp)
    | primary => exact .of_eq (by simp)
    | vectors => exact .of_eq (by simp [State.editVectors])
    | same | allocated | dropped | loadStarted | loaded | installed | enables | profile | latches =>
      exact .of_eq rfl
  rcases serviceWork_cases c with ⟨r, f, m, -, h⟩ | ⟨-, h⟩ <;> rw [h]
  · rcases s.takePeerCut_cases c.src r.toNat f.toNat with heq | ⟨_, _, _, heq⟩ <;> rw [heq]
    · exact .of_eq rfl
    · rcases s.propose_cases f.toNat (.peer c.src) with heq | heq | ⟨-, -, heq⟩ <;> rw [heq]
      · exact .of_eq rfl
      · exact State.lineKept_raise _
      · exact .of_eq (by simp)
  · rcases handle_cases c (ownerOf c) s with ⟨r, hr⟩ | ⟨-, -, ho⟩
    · rw [hr]
      exact State.lineKept_reply c _
    · rw [ho]
      exact (howned (ownerOf_owned c)).trans (State.lineKept_reply c _)

end
/-! ## Every step keeps the line's laws (O12) -/

section
variable {s t : State}

/-- Moves keep queue and contention sound. -/
theorem State.Moves.sound (h : s.Moves t) (hs : s.line.Sound) : t.line.Sound := by
  obtain ⟨-, hmoves⟩ := h
  generalize t.line = m at hmoves ⊢
  induction hmoves with
  | refl => exact hs
  | tail _ hmove ih => exact hmove.sound ih

/-- Moves keep the FIFO sound. -/
theorem State.Moves.fifoSound (h : s.Moves t) (hs : s.line.FifoSound s.straps.station) :
    t.line.FifoSound t.straps.station := by
  obtain ⟨hstraps, hmoves⟩ := h
  rw [hstraps]
  generalize t.line = m at hmoves ⊢
  induction hmoves with
  | refl => exact hs
  | tail _ hmove ih => exact hmove.fifoSound ih

/-- Moves keep LINE RESETs waiting behind a service alone. -/
theorem State.Moves.waitSound (h : s.Moves t) (hs : s.line.WaitSound) : t.line.WaitSound := by
  obtain ⟨-, hmoves⟩ := h
  generalize t.line = m at hmoves ⊢
  induction hmoves with
  | refl => exact hs
  | tail _ hmove ih => exact hmove.waitSound ih

/-- Moves keep the laws of the line. -/
theorem State.Moves.lineSound (h : s.Moves t) (hs : LineSound s) : LineSound t := by
  obtain ⟨hqueue, hfifo, hwait⟩ := lineSound_iff.mp hs
  exact lineSound_iff.mpr ⟨h.sound hqueue, h.fifoSound hfifo, h.waitSound hwait⟩

/-- Moves leave a muted line muted (R179). -/
theorem State.Moves.mute_stays (h : s.Moves t) (hs : s.line.mute = true) : t.line.mute = true := by
  obtain ⟨-, hmoves⟩ := h
  generalize t.line = m at hmoves ⊢
  induction hmoves with
  | refl => exact hs
  | tail _ hmove ih => exact hmove.mute_stays ih

/-- What the receiver makes of a frame moves the line (R171). -/
theorem State.moves_receive (f : Frame) : s.Moves (s.receive f) := by
  rcases s.receive_cases f with h | h | h | ⟨p, a, hsound, hown, hall, hdst, ha, h⟩ <;> rw [h]
  · exact State.moves_raise _
  · exact State.moves_duplicateFound
  · exact .of_eq rfl rfl
  · refine State.moves_takeArrival ?_
    rintro r rfl
    exact admissible_of_sound hsound hown hall hdst ha

/-- Contention at a guard starts a deferral of the first cue, now or as the arriving cue found the queue (R165, log 6). -/
theorem State.moves_contendAtGuard (e : Option TxEntry) (hfree : s.line.inFlight = none) :
    s.Moves (s.contendAtGuard e) := by
  have hguard : ∀ n, s.Moves { s with
      freeCount := n
      line := Line.contend s.straps.station { s.line with idle := true, deferral := none } } :=
    fun n => .single rfl (.guard hfree)
  unfold State.contendAtGuard
  dsimp only
  cases e with
  | none => exact hguard s.freeCount
  | some e =>
    dsimp only
    split
    next hother =>
      split
      next =>
        simp only [Bool.and_eq_true, List.any_eq_true, beq_iff_eq] at hother
        obtain ⟨⟨hsome, hqueued⟩, -⟩ := hother
        have hfresh := (Line.contend_deferral s.straps.station
          { s.line with idle := true, deferral := none }).2 nofun
        rw [hfresh] at hsome
        split at hsome
        next hcontends =>
          refine (hguard (s.freeCount + 1)).trans (.single rfl (.defer _ ?_ ?_ ?_ hqueued))
          · simpa using hfree
          · simp
          · simpa using hcontends.2.1
        next => cases hsome
      next => exact hguard (s.freeCount + 1)
    next => exact hguard s.freeCount

/-- A guard's completion moves the line (R164). -/
theorem State.moves_guardComplete (heard : Option Frame) : s.Moves (s.guardComplete heard) := by
  by_cases hfree : s.line.inFlight = none
  case neg =>
    rw [State.guardComplete_of_sending heard hfree]
    exact .of_eq rfl rfl
  rw [State.guardComplete_of_free heard hfree]
  have hguard : s.Moves s.atGuard := .single rfl (.busy none (.inr rfl))
  have hheard : s.Moves (s.heardAtGuard heard) := by
    unfold State.heardAtGuard
    split
    next f =>
      split
      next => exact hguard
      next => exact hguard.trans (State.moves_receive f)
    next => exact hguard
  exact hheard.trans (State.moves_contendAtGuard _ (State.heardAtGuard_inFlight heard hfree))

/-- The transmitter's commands move the line (R165, R166). -/
theorem State.moves_transmitter :
    s.Moves s.transmitStart ∧ s.Moves s.transmitAbandon ∧ s.Moves s.transmitComplete := by
  refine ⟨?_, ?_, ?_⟩
  · unfold State.transmitStart
    split
    next d hd => exact .single rfl (.start hd)
    next => exact .of_eq rfl rfl
  · unfold State.transmitAbandon
    split
    next j hj =>
      split
      next =>
        have hleft : s.Moves
            { s with line := { s.line with tx := dropTx j s.line.tx, inFlight := none } } :=
          .single rfl (.leave s.line.sentWhole hj)
        exact hleft.trans (State.moves_raise _)
      next hleft => exact .single rfl (.abandon hj (Bool.eq_false_iff.mpr hleft))
    next => exact .of_eq rfl rfl
  · unfold State.transmitComplete
    split
    next j hj => exact .single rfl (.leave s.onLine hj)
    next => exact .of_eq rfl rfl

/-- A sync moves the line by the offers of its boundary, or of the loss it declares (R159, R160). -/
theorem State.moves_syncs (p : Bool) : s.Moves (s.fieldSync p) ∧ s.Moves s.missingSync := by
  have hraster : ∀ (r : Raster) (v : Video), s.Moves { s with raster := r, video := v } :=
    fun _ _ => .of_eq rfl rfl
  constructor
  · rcases s.fieldSync_cases p with ⟨r, v, -, -, h⟩ | ⟨r, v, -, -, -, h⟩ | ⟨-, h⟩ <;> rw [h]
    · exact (hraster r v).trans State.moves_fieldBoundary
    · exact hraster r v
    · exact State.moves_loseLock.trans (.of_eq rfl rfl)
  · rcases s.missingSync_cases with ⟨r, -, h⟩ | ⟨-, h⟩ <;> rw [h]
    · exact .of_eq rfl rfl
    · exact State.Moves.trans (.of_eq rfl rfl) State.moves_loseLock

/-- A command that is no service and not one of RESET moves the line. -/
theorem moves_plainWork {c : Instr} (hreset : ¬ IsReset c) (hservice : serviceCue c = none)
    (harrival : arrivalCommand c = none) : s.Moves (plainWork c s) := by
  cases c
  case powerOnReset straps => exact absurd (.inr ⟨straps, rfl⟩) hreset
  case resetAsserted => exact absurd (.inl rfl) hreset
  case reel | frame | present | lineReset | hold | release => cases harrival
  case lineSync | rollCallWindowEnd => exact .of_eq rfl rfl
  case fieldSync p => exact (State.moves_syncs p).1
  case missingSyncExpiry => exact (State.moves_syncs true).2
  case pixelClock => exact .of_eq (by simp [plainWork]) (by simp [plainWork])
  case guardComplete heard => exact State.moves_guardComplete heard
  case transmitStart => exact State.moves_transmitter.1
  case transmitAbandon => exact State.moves_transmitter.2.1
  case transmitComplete => exact State.moves_transmitter.2.2
  case deferralYield => exact .single rfl (.busy s.line.sentWhole (.inl rfl))
  all_goals cases hservice

/-- A service whose cue is not in the FIFO moves the line; one that ends moves it from the FIFO without its head, and no LINE RESET waits after it (R173, R174). -/
theorem moves_serve (c : Cue) :
    s.Moves (serve c (serviceWork c) s) ∨
    (served s).Moves (serve c (serviceWork c) s) ∧
      (serve c (serviceWork c) s).line.lineResets = [] := by
  rcases serve_cases c (serviceWork c) s with h | ⟨-, -, h⟩ | ⟨-, h⟩ <;> rw [h]
  · exact .inl (.of_eq rfl rfl)
  · exact .inl (moves_serviceWork c)
  · obtain ⟨hmoves, hnone⟩ := State.moves_takeWaiting (s := serviceWork c (served s))
    exact .inr ⟨(moves_serviceWork c).trans hmoves, hnone⟩

/-- A cue taken at its arrival joins no FIFO (R172). -/
theorem arrivalCommand_ne_queued {c : Instr} {src : Station} (r : Request) :
    arrivalCommand c ≠ some (src, .queued r) := by
  cases c <;> simp [arrivalCommand]

/-- The line of a power-on is sound: it holds one PRESENT, or is muted (R181, R186). -/
theorem lineSound_powerOn (straps : Straps) (h : t.line = (State.powerOn straps).line) :
    LineSound t := by
  rw [LineSound, h]
  unfold State.powerOn
  split <;> simp [Line.quiet, TxEntry.isPresent, List.countP_cons]

/-- A line with nothing received and nothing to send is sound. -/
theorem lineSound_quiet (h : t.line = Line.quiet false) : LineSound t := by
  rw [LineSound, h]
  simp [Line.quiet]

/-- Every command keeps the laws of the line. -/
theorem Effect.lineSound {c : Instr} (h : Effect s c t) (hs : LineSound s) : LineSound t := by
  cases h with
  | powerOn straps => exact lineSound_powerOn straps rfl
  | asserted => exact lineSound_quiet rfl
  | held => exact hs
  | arrival harrival hrunning =>
    refine (State.moves_takeArrival ?_).lineSound hs
    rintro r rfl
    exact absurd harrival (arrivalCommand_ne_queued r)
  | service =>
    rcases moves_serve (s := s) _ with h | ⟨h, hnone⟩
    · exact h.lineSound hs
    · obtain ⟨⟨⟨hlength, hpresent, horder, hdistinct, hentries⟩, hflight, hdeferral, hmute⟩,
        ⟨hfifo, hadmissible⟩, -⟩ := lineSound_iff.mp hs
      have hserved : (served s).line.Sound :=
        ⟨⟨hlength, hpresent, horder, hdistinct, hentries⟩, hflight, hdeferral, hmute⟩
      refine lineSound_iff.mpr ⟨h.sound hserved, h.fifoSound ⟨?_, fun x hx => ?_⟩, fun hsome => ?_⟩
      · exact (List.length_tail ▸ Nat.sub_le _ _).trans hfifo
      · exact hadmissible x (List.mem_of_mem_tail hx)
      · exact absurd hnone hsome
  | plain hreset harrival hservice => exact (moves_plainWork hreset hservice harrival).lineSound hs

/-! ## The roster -/

/-- The roster of a reset holds the own entry alone (R182). -/
theorem role_ownRoster {a : Station} (h : t.roster = ownRoster t.straps.station) :
    t.role a = if a = t.straps.station ∧ a ≠ 15 then some .engine else none := by
  unfold State.role
  rw [h, ownRoster, List.getD_eq_getElem?_getD, List.getElem?_set, List.getElem?_replicate,
    List.length_replicate]
  have hlt : a.toNat < 15 ↔ a ≠ 15 := by
    have hlt := a.isLt
    rw [ne_eq, ← BitVec.toNat_inj, show (15 : Station).toNat = 15 from rfl]
    omega
  have heq : t.straps.station.toNat = a.toNat ↔ a = t.straps.station := by
    rw [BitVec.toNat_inj, eq_comm]
  by_cases ha : a = t.straps.station
  · rw [if_pos (heq.mpr ha)]
    by_cases h15 : a = 15
    · rw [if_neg (by simp [heq.mpr ha, h15]), if_neg (by simp [h15])]
      rfl
    · rw [if_pos (heq.mpr ha ▸ hlt.mpr h15), if_pos ⟨ha, h15⟩]
      rfl
  · have hnot : ¬(a = t.straps.station ∧ a ≠ 15) := fun h => ha h.1
    rw [if_neg (fun h => ha (heq.mp h)), if_neg hnot]
    split <;> rfl

/-- The roster of a reset has its shape. -/
theorem rosterSound_ownRoster (h : t.roster = ownRoster t.straps.station) : RosterSound t := by
  refine ⟨by simp [h, ownRoster], fun hstation => ?_⟩
  rw [role_ownRoster h, if_pos ⟨rfl, hstation⟩]

/-- What leaves straps and roster keeps its shape. -/
theorem rosterSound_congr (hs : RosterSound s) (hstraps : t.straps = s.straps)
    (hroster : t.roster = s.roster) : RosterSound t := by
  rw [RosterSound, State.role, hroster, hstraps]
  exact hs

/-- What an owner leaves alone (R174). -/
theorem Owned.frame {named : Option Byte} (h : Owned s named t) :
    t.straps = s.straps ∧ t.resetHeld = s.resetHeld ∧ t.video = s.video ∧ t.raster = s.raster ∧
    t.snapshot = s.snapshot ∧ t.forcedBlack = s.forcedBlack ∧ t.curves = s.curves ∧
    t.shadeH = s.shadeH ∧ t.shadeV = s.shadeV ∧ t.follower = s.follower ∧
    t.detector = s.detector ∧ t.roster = s.roster ∧ t.rollCall = s.rollCall ∧
    t.pending = s.pending := by
  cases h with
  | cancelled =>
    rw [State.lineWork_replyCancelled]
    simp
  | undone =>
    rw [State.undoEntry_work]
    simp
  | marked => simp
  | cleared => simp [State.clearRecord]
  | set => simp
  | purged => simp
  | primary => simp
  | vectors => simp [State.editVectors]
  | same | allocated | dropped | loadStarted | loaded | installed | enables | profile | latches =>
    simp [State.setSlot]

/-- What no cue touches. -/
def State.Framed (s t : State) : Prop :=
  t.straps = s.straps ∧ t.resetHeld = s.resetHeld ∧ t.video = s.video ∧ t.raster = s.raster ∧
  t.snapshot = s.snapshot ∧ t.curves = s.curves ∧ t.shadeH = s.shadeH ∧ t.shadeV = s.shadeV ∧
  t.pending = s.pending

/-- What a cue does touches no pin, no raster, no picture store and no snapshot. -/
theorem Touch.framed (h : Touch s t) : s.Framed t := by
  cases h with
  | line hline =>
    unfold State.LineWork at hline
    rw [hline]
    exact ⟨rfl, rfl, rfl, rfl, rfl, rfl, rfl, rfl, rfl⟩
  | peerCut a reel frame =>
    rcases s.takePeerCut_cases a reel frame with heq | ⟨_, _, _, heq⟩ <;> rw [heq] <;>
      simp [State.Framed]
  | owner c =>
    obtain ⟨hstraps, hheld, hvideo, hraster, hsnapshot, -, hcurves, hshadeH, hshadeV, -, -, -, -,
      hpending⟩ := (ownerOf_owned c).frame
    exact ⟨hstraps, hheld, hvideo, hraster, hsnapshot, hcurves, hshadeH, hshadeV, hpending⟩
  | reel | rethread => simp [State.Framed]
  | frame | hold | role | lineReset => exact ⟨rfl, rfl, rfl, rfl, rfl, rfl, rfl, rfl, rfl⟩

/-- What cues do one after the other touches no more than each. -/
theorem Chain.framed (h : Chain s t) : s.Framed t := by
  induction h with
  | refl => exact ⟨rfl, rfl, rfl, rfl, rfl, rfl, rfl, rfl, rfl⟩
  | tail _ htouch ih =>
    obtain ⟨h1, h2, h3, h4, h5, h6, h7, h8, h9⟩ := ih
    obtain ⟨k1, k2, k3, k4, k5, k6, k7, k8, k9⟩ := htouch.framed
    exact ⟨k1.trans h1, k2.trans h2, k3.trans h3, k4.trans h4, k5.trans h5, k6.trans h6,
      k7.trans h7, k8.trans h8, k9.trans h9⟩

/-- What a cue does keeps the roster's shape: a PRESENT never sets the own entry (R183). -/
theorem Touch.rosterSound (h : Touch s t) (hs : RosterSound s) : RosterSound t := by
  cases h with
  | line hline =>
    unfold State.LineWork at hline
    rw [hline]
    exact hs
  | peerCut a reel frame =>
    rcases s.takePeerCut_cases a reel frame with heq | ⟨_, _, _, heq⟩ <;> rw [heq]
    · exact hs
    · exact rosterSound_congr hs (by simp) (by simp)
  | owner c =>
    obtain ⟨hstraps, -, -, -, -, -, -, -, -, -, -, hroster, -, -⟩ := (ownerOf_owned c).frame
    exact rosterSound_congr hs hstraps hroster
  | role a r hown =>
    obtain ⟨hlength, hengine⟩ := hs
    refine ⟨(List.length_set ..).trans hlength, fun hstation => ?_⟩
    have hne : a.toNat ≠ s.straps.station.toNat := fun heq => hown (BitVec.eq_of_toNat_eq heq)
    rw [← hengine hstation]
    unfold State.role
    rw [List.getD_eq_getElem?_getD, List.getElem?_set_ne hne, List.getD_eq_getElem?_getD]
  | lineReset => exact rosterSound_ownRoster rfl
  | reel | rethread => exact rosterSound_congr hs (by simp) (by simp)
  | frame | hold => exact hs

/-- Every command keeps the roster's shape. -/
theorem Deed.rosterSound {c : Instr} (h : Deed s c t) (hs : RosterSound s) : RosterSound t := by
  cases h with
  | powerOn straps =>
    refine rosterSound_ownRoster ?_
    unfold State.powerOn
    split <;> rfl
  | asserted => exact rosterSound_ownRoster rfl
  | cues _ _ hchain =>
    induction hchain with
    | refl => exact hs
    | tail _ htouch ih => exact htouch.rosterSound ih
  | fieldSync p =>
    rcases s.fieldSync_cases p with ⟨r, v, -, -, h⟩ | ⟨r, v, -, -, -, h⟩ | ⟨-, h⟩ <;> rw [h]
    · exact rosterSound_congr hs (by simp [State.fieldBoundary]) (by simp [State.fieldBoundary])
    · exact hs
    · exact rosterSound_congr hs (by simp [State.syncMarked]) (by simp [State.syncMarked])
  | expiry =>
    rcases s.missingSync_cases with ⟨r, -, h⟩ | ⟨-, h⟩ <;> rw [h]
    · exact hs
    · exact rosterSound_congr hs (by simp [State.expired]) (by simp [State.expired])
  | pixelClock => exact rosterSound_congr hs (by simp) (by simp)
  | lineSync | held | windowEnd => exact hs

end

/-- Settles O12: the line changes by moves alone, and each keeps its laws; a service's end takes the head off the FIFO and leaves no LINE RESET waiting. -/
theorem stepKeepsLine : Obligations.StepKeepsLine := by
  unfold Obligations.StepKeepsLine
  intro s t hline hroster hstep
  rcases step_cases hstep with rfl | ⟨c, rest, heffect⟩
  · exact ⟨hline, hroster⟩
  · exact ⟨Effect.lineSound (s := { s with pending := rest }) heffect hline,
      Deed.rosterSound (s := { s with pending := rest }) heffect.deed hroster⟩

/-- The syncs leave straps, RESET and the queue of commands (R156, R160). -/
theorem State.syncs_pins (p : Bool) (s : State) :
    ((s.fieldSync p).straps = s.straps ∧ (s.fieldSync p).resetHeld = s.resetHeld ∧
      (s.fieldSync p).pending = s.pending) ∧
    (s.missingSync.straps = s.straps ∧ s.missingSync.resetHeld = s.resetHeld ∧
      s.missingSync.pending = s.pending) := by
  constructor
  · rcases s.fieldSync_cases p with ⟨r, v, -, -, h⟩ | ⟨r, v, -, -, -, h⟩ | ⟨-, h⟩ <;> rw [h]
    · simp [State.fieldBoundary]
    · exact ⟨rfl, rfl, rfl⟩
    · simp [State.syncMarked]
  · rcases s.missingSync_cases with ⟨r, -, h⟩ | ⟨-, h⟩ <;> rw [h]
    · exact ⟨rfl, rfl, rfl⟩
    · simp [State.expired]

/-- No command but a power-on touches the straps. -/
theorem Deed.straps {c : Instr} {s t : State} (h : Deed s c t)
    (hreset : ∀ straps, c ≠ .powerOnReset straps) : t.straps = s.straps := by
  cases h with
  | powerOn straps => exact absurd rfl (hreset straps)
  | cues _ _ hchain => exact hchain.framed.1
  | fieldSync p => exact (s.syncs_pins p).1.1
  | expiry => exact (s.syncs_pins true).2.1
  | pixelClock => simp
  | asserted | lineSync | held | windowEnd => rfl

/-- No command but the two of RESET ends or asserts it. -/
theorem Deed.resetHeld {c : Instr} {s t : State} (h : Deed s c t) (hreset : ¬ IsReset c) :
    t.resetHeld = s.resetHeld := by
  cases h with
  | powerOn straps => exact absurd (.inr ⟨straps, rfl⟩) hreset
  | asserted => exact absurd (.inl rfl) hreset
  | cues _ _ hchain => exact hchain.framed.2.1
  | fieldSync p => exact (s.syncs_pins p).1.2.1
  | expiry => exact (s.syncs_pins true).2.2.1
  | pixelClock => simp
  | lineSync | held | windowEnd => rfl

/-- A command that is none of RESET leaves a muted line muted (R179). -/
theorem Effect.mute_stays {c : Instr} {s t : State} (h : Effect s c t) (hreset : ¬ IsReset c)
    (hmute : s.line.mute = true) : t.line.mute = true := by
  cases h with
  | powerOn straps => exact absurd (.inr ⟨straps, rfl⟩) hreset
  | asserted => exact absurd (.inl rfl) hreset
  | held => exact hmute
  | arrival harrival =>
    refine (State.moves_takeArrival ?_).mute_stays hmute
    rintro r rfl
    exact absurd harrival (arrivalCommand_ne_queued r)
  | service =>
    rcases moves_serve (s := s) _ with h | ⟨h, -⟩
    · exact h.mute_stays hmute
    · exact h.mute_stays (s := served s) hmute
  | plain hreset harrival hservice => exact (moves_plainWork hreset hservice harrival).mute_stays hmute

/-- Settles O6: no cue and no field's work touches straps or RESET, and no move of the line ends the mute. -/
theorem onlyPowerOnReadsStraps : Obligations.OnlyPowerOnReadsStraps := by
  unfold Obligations.OnlyPowerOnReadsStraps
  intro c s t hexec
  have heffect := effect_of_exec hexec
  exact ⟨heffect.deed.straps, heffect.deed.resetHeld, heffect.mute_stays⟩

end Sys2Proof.Machine

/-! Resets, hold causes, the engine state, and what a service's end does (Chapters 6, 10, 11, 12). -/

namespace Sys2Proof.Machine

open Safety

/-! ## Resets -/

/-- Settles O3: what stands for the lost state drives nothing, and a held engine runs no command but those of RESET. -/
theorem resetHeld : Obligations.ResetHeld := by
  unfold Obligations.ResetHeld
  refine ⟨fun s => ⟨_, rfl, rfl, rfl, rfl, rfl, rfl, rfl, rfl⟩, fun c s hc hheld => ?_⟩
  exact exec_held hc hheld

/-- A latch's bit is its own alone. -/
theorem Latch.bit_getLsbD (l k : Latch) : l.bit.getLsbD k.index = decide (l = k) := by
  cases l <;> cases k <;> rfl

/-- Point i of the identity curve is 16 × i (R27). -/
theorem identityCurve_getD {i : Nat} (h : i < 257) : identityCurve.getD i 0 = 16 * i := by
  simp [identityCurve, List.getD_eq_getElem?_getD, h]

/-- Slot 0 alone is allocated (R47). -/
theorem Pool.initial_slot {n : Nat} (h : n ≠ 0) : Pool.initial.slot n = none := by
  obtain ⟨m, rfl⟩ := Nat.exists_eq_succ_of_ne_zero h
  rw [Pool.slot, Pool.initial, List.getD_cons_succ]
  simp only [List.getD_eq_getElem?_getD, List.getElem?_replicate]
  split <;> rfl

/-- The line of a power-on: muted with STATION 15, and otherwise with its PRESENT queued (R181, R186). -/
theorem State.powerOn_line (straps : Straps) :
    (State.powerOn straps).line.fifo = [] ∧ (State.powerOn straps).line.inFlight = none ∧
    (State.powerOn straps).line.deferral = none ∧
    (State.powerOn straps).line.mute = decide (straps.station = 15) ∧
    (State.powerOn straps).line.tx.map (·.cue) =
      (if straps.station = 15 then [] else [⟨15, .present true⟩]) := by
  unfold State.powerOn
  split
  next h => exact ⟨rfl, rfl, rfl, (decide_eq_true h).symm, rfl⟩
  next h => exact ⟨rfl, rfl, rfl, (decide_eq_false h).symm, rfl⟩

/-- The latches of a power-on: ADDRESS with STATION 15, and otherwise none (R181, R186). -/
theorem State.powerOn_held (straps : Straps) (l : Latch) :
    (State.powerOn straps).held l = true ↔ l = .address ∧ straps.station = 15 := by
  unfold State.powerOn State.held
  split
  next h => cases l <;> simp [h, Latch.index]
  next h => exact iff_of_false (by simp [State.cold]) fun hl => h hl.2

/-- Settles O4: the power-on values are those of the cold engine but for line, latches and window. -/
theorem powerOnValues : Obligations.PowerOnValues := by
  unfold Obligations.PowerOnValues
  intro straps s
  obtain ⟨l, w, heq⟩ := State.powerOn_cases straps
  obtain ⟨hfifo, hflight, hdeferral, hmute, htx⟩ := State.powerOn_line straps
  have hheld := State.powerOn_held straps
  rw [heq] at hfifo hflight hdeferral hmute htx hheld
  refine ⟨_, rfl, ?_⟩
  rw [heq]
  refine ⟨rfl, rfl, rfl, rfl, rfl, rfl, rfl, rfl, rfl, rfl, rfl, rfl, ?delay, rfl, rfl, rfl, ?curves,
    rfl, ?shadeH, rfl, ?shadeV, rfl, rfl, rfl, rfl, rfl, rfl, rfl, rfl, rfl, rfl, rfl, rfl,
    fun n hn => Pool.initial_slot hn, rfl, rfl, rfl, rfl, rfl, rfl, ?bins, rfl, rfl, rfl, hfifo,
    hflight, hdeferral, hmute, htx, fun a => role_ownRoster rfl, rfl, hheld, ?reports, ?cut, ?entered, rfl⟩
  case delay => exact fun q hq => List.eq_of_mem_replicate hq
  case curves =>
    intro c hc
    obtain rfl := List.eq_of_mem_replicate hc
    exact ⟨by simp [identityCurve], fun i hi => identityCurve_getD hi⟩
  case shadeH => exact fun q hq => List.eq_of_mem_replicate hq
  case shadeV => exact fun q hq => List.eq_of_mem_replicate hq
  case bins => exact fun q hq => List.eq_of_mem_replicate hq
  case reports => exact fun l => by cases l <;> simp [State.reports, State.cold, Latch.index]
  case cut => simp [State.reportsCut, State.cold]
  case entered => simp [State.reportsSceneEntered, State.cold]

/-! ## Hold causes and the engine state -/

/-- Settles O45: a console's word sets or removes the one cause. -/
theorem holdAndRelease : Obligations.HoldAndRelease := by
  unfold Obligations.HoldAndRelease
  intro src s hrunning
  have hhold : ∀ b, (s.role src = some .console → s.takeHold b src =
        { s with follower := { s.follower with holdConsole := b } }) ∧
      (s.role src ≠ some .console → s.takeHold b src = s) :=
    fun b => ⟨fun h => if_pos h, fun h => if_neg h⟩
  have hexec : exec (.hold src) s = .next (s.takeHold true src) ∧
      exec (.release src) s = .next (s.takeHold false src) :=
    ⟨whenRunning_running s _ hrunning, whenRunning_running s _ hrunning⟩
  rw [hexec.1, hexec.2]
  refine ⟨fun h => ?_, fun h => ?_⟩
  · rw [(hhold true).1 h, (hhold false).1 h]
    exact ⟨rfl, rfl⟩
  · rw [(hhold true).2 h, (hhold false).2 h]
    exact ⟨rfl, rfl⟩

/-- Settles O37: the window's end stops it, and the rows of Table 6-6 are tried in their order. -/
theorem engineStateTable : Obligations.EngineStateTable := by
  unfold Obligations.EngineStateTable
  refine ⟨fun s hrunning => ?_, fun s => ?_⟩
  · have hexec : exec .rollCallWindowEnd s = .next { s with rollCall := none } :=
      whenRunning_running s (fun s => { s with rollCall := none }) hrunning
    refine ⟨hexec, fun t ht => ?_⟩
    obtain rfl := Host.Outcome.next.inj (hexec.symm.trans ht)
    simp only [State.engineState, Option.isSome_none, Bool.false_eq_true, if_false]
    repeat' split
    all_goals exact nofun
  · unfold State.engineState
    split
    next hwindow => simp [Option.isSome_iff_ne_none.mp hwindow]
    next hwindow =>
      have hwindow : s.rollCall = none := by simpa using hwindow
      split
      next hlock =>
        have hlock : s.raster.locked = false := by simpa using hlock
        simp [hwindow, hlock]
      next hlock =>
        have hlock : s.raster.locked = true := by simpa using hlock
        split
        next hreel =>
          have hreel : s.follower.reel = none := by simpa using hreel
          simp [hwindow, hlock, hreel]
        next hreel =>
          have hreel : s.follower.reel ≠ none := by simpa using hreel
          split
          next hhold =>
            have hhold : s.follower.holdConsole = true ∨ s.follower.holdCoast = true := by
              simpa using hhold
            rcases hhold with hcause | hcause <;> simp [hwindow, hlock, hreel, hcause]
          next hhold =>
            have hhold : s.follower.holdConsole = false ∧ s.follower.holdCoast = false := by
              simpa using hhold
            split
            next hcoast => simp [hwindow, hlock, hreel, hhold, hcoast, hcoast.ne']
            next hcoast => simp [hwindow, hlock, hreel, hhold, Nat.eq_zero_of_not_pos hcoast]

/-! ## Services -/

section
variable {s : State} {c : Cue} {i : Instr}

/-- The service of the FIFO's head ends with its work on the rest, and the LINE RESETs that waited (R172 to R174). -/
theorem exec_atHead (hi : serviceCue i = some c) (h : AtHead c s) :
    exec i s = .next (serviceWork c (served s)).takeWaiting := by
  obtain ⟨hrunning, hhead⟩ := h
  rw [exec_service hi, whenRunning_running s _ hrunning, serve_head s c _ hhead, served]

/-- A CUT in ROLLCALL, or from a source that is no ENGINE, does nothing (R149). -/
theorem takePeerCut_ignored {a : Station} {reel frame : Nat}
    (h : s.engineState = .rollcall ∨ s.role a ≠ some .engine) : s.takePeerCut a reel frame = s := by
  unfold State.takePeerCut
  split
  next =>
    refine if_neg ?_
    rintro ⟨hstate, hrole, -⟩
    exact h.elim hstate fun hnot => hnot hrole
  next => rfl

end

/-- Settles O16: the handler's two tests come before the owner, and a CUT's before its proposal. -/
theorem handlerRefusals : Obligations.HandlerRefusals := by
  unfold Obligations.HandlerRefusals
  intro i c s hi hhead
  have hexec := exec_atHead hi hhead
  refine ⟨fun hrequest => ?_, fun r f m hcut hignored => ?_⟩
  · rcases serviceWork_cases c with ⟨r, f, m, hcut, -⟩ | ⟨-, hwork⟩
    · exact absurd hcut (hrequest r f m)
    rw [hwork] at hexec
    refine ⟨fun hstate => ?_, fun hstate hrole => ?_⟩
    · rw [handle_rollcall (served s) c _ hstate] at hexec
      exact hexec
    · rw [handle_denied (served s) c _ hstate hrole] at hexec
      exact hexec
  · rcases serviceWork_cases c with ⟨r', f', m', -, hwork⟩ | ⟨hrequest, -⟩
    · rw [hwork, takePeerCut_ignored (s := served s) hignored] at hexec
      exact hexec
    · exact absurd hcut (hrequest r f m)

/-- No LINE RESET waits: a service's end takes none (R172). -/
theorem State.takeWaiting_of_none {s : State} (h : s.line.lineResets = []) : s.takeWaiting = s := by
  have hline : { s.line with lineResets := [] } = s.line := by rw [← h]
  unfold State.takeWaiting
  rw [h, List.foldl_nil, hline]

/-- Settles O17: on an empty FIFO the work is that of the cue as the FIFO's only one. -/
theorem serviceNeedsItsCue : Obligations.ServiceNeedsItsCue := by
  unfold Obligations.ServiceNeedsItsCue
  intro i c s hi hrunning
  have hexec := fun x (hx : x.resetHeld = false) =>
    (exec_service hi x).trans (whenRunning_running x (serve c (serviceWork c)) hx)
  refine ⟨fun hsome hother => ?_, fun hempty hwait => ?_⟩
  · rw [hexec s hrunning]
    rcases serve_cases c (serviceWork c) s with h | ⟨hempty, -⟩ | ⟨hhead, -⟩
    · rw [h]
    · exact absurd hempty hsome
    · exact absurd hhead hother
  · rw [hexec s hrunning, hexec { s with line := { s.line with fifo := [c] } } hrunning]
    have hserved : served { s with line := { s.line with fifo := [c] } } = s := by
      have hline : { s.line with fifo := [] } = s.line := by rw [← hempty]
      unfold served
      dsimp only [List.tail]
      rw [hline]
    have hwork : (serviceWork c s).takeWaiting = serviceWork c s :=
      State.takeWaiting_of_none ((State.lineKept_serviceWork c).2.1.trans hwait)
    have hhead : serve c (serviceWork c) { s with line := { s.line with fifo := [c] } } =
        serviceWork c s := by
      rw [serve_head { s with line := { s.line with fifo := [c] } } c _ rfl, ← hwork]
      exact congrArg (fun x => (serviceWork c x).takeWaiting) hserved
    rw [hhead, serve, hempty]
    dsimp only
    split <;> rfl

/-- The latches whose condition stands (R190). -/
theorem State.standing_getLsbD (s : State) (l : Latch) :
    s.standing.getLsbD l.index = true ↔
      (l = .syncLost ∧ s.raster.locked = false) ∨ (l = .coastHold ∧ s.follower.holdCoast = true) := by
  unfold State.standing
  cases s.raster.locked <;> cases s.follower.holdCoast <;>
    simp [Latch.bit_getLsbD, eq_comm (a := l)]

/-- A latch's index is below 8. -/
theorem Latch.index_lt (l : Latch) : l.index < 8 := by cases l <;> decide

/-- Settles O60: a latch stays when it is not named, or when its condition stands. -/
theorem clearFaultsService : Obligations.ClearFaults := by
  unfold Obligations.ClearFaults
  intro src dst mask s c haccepted
  have hexec := serveRequest_answers (owner := clearFaults mask) haccepted rfl
  refine ⟨_, hexec, fun l => ?_, rfl⟩
  have hstanding := s.standing_getLsbD l
  have hlt := l.index_lt
  change (s.latches &&& (~~~mask ||| s.standing)).getLsbD l.index = true ↔ _
  rw [BitVec.getLsbD_and, BitVec.getLsbD_or, BitVec.getLsbD_not, Bool.and_eq_true, Bool.or_eq_true,
    hstanding]
  simp [hlt, State.held]

/-! ## Offers to a queue with room -/

/-- On an unmuted queue with room an offer is the joining of its cue (R177, R178). -/
theorem State.offer_of_room {s : State} {c : TxCue} (hmute : s.line.mute = false)
    (hroom : s.line.tx.length < 8) :
    s.offer c = { s with line := s.line.join s.straps.station c } := by
  have hfull := Line.txFull_eq_false.mpr hroom
  simp [State.offer, hmute, hfull, Line.offered]

/-- A muted transmitter discards what it is offered (R179). -/
theorem State.offer_of_mute {s : State} {c : TxCue} (hmute : s.line.mute = true) : s.offer c = s :=
  if_pos hmute

/-! ## Line resets -/

/-- What a line reset leaves: Table 11-4 line by line, and everything else as it was (R188). -/
def State.LineResetDone (s t : State) : Prop :=
  t.line.fifo = [] ∧ t.line.lineResets = s.line.lineResets ∧
  t.line.tx.map (·.cue) = (if s.line.mute then [] else [⟨15, .present false⟩]) ∧
  t.latches = 0 ∧ t.rollCall = some 6750000 ∧ t.roster = ownRoster s.straps.station ∧
  t.forcedBlack = true ∧ t.loader = Loader.idle ∧
  t.follower = { s.follower with
    schedule := [], current := none, coast := 0, holdConsole := false, holdCoast := false } ∧
  t.line.inFlight = none ∧ t.line.mute = s.line.mute ∧ (∀ e ∈ t.line.tx, e.attempts = 0) ∧
  { t with
    roster := s.roster, latches := s.latches, rollCall := s.rollCall
    forcedBlack := s.forcedBlack, loader := s.loader, follower := s.follower
    line := s.line } = s

/-- The own PRESENT is all that a line reset leaves to send (R188). -/
theorem State.lineResetDone_offer (s : State) :
    s.LineResetDone (s.lineCleared.offer (presentCue false)) := by
  cases hmute : s.line.mute with
  | true =>
    rw [State.offer_of_mute (s := s.lineCleared) hmute]
    exact ⟨rfl, rfl, by rw [hmute]; rfl, rfl, rfl, rfl, rfl, rfl, rfl, rfl, rfl, nofun, rfl⟩
  | false =>
    rw [State.offer_of_room (s := s.lineCleared) hmute (Nat.zero_lt_succ _)]
    have hjoin := Line.contend_fields s.straps.station
      { s.lineCleared.line with
        tx := insertTx ⟨presentCue false, s.line.nextJoin, 0⟩ [], nextJoin := s.line.nextJoin + 1 }
    obtain ⟨hfifo, hwait, htx, -, hflight, -, -, hmute'⟩ := hjoin
    refine ⟨hfifo, hwait, ?_, rfl, rfl, rfl, rfl, rfl, rfl, hflight, hmute', fun e he => ?_, rfl⟩
    · rw [hmute]
      exact congrArg (List.map (·.cue)) htx
    · obtain rfl : e = ⟨presentCue false, s.line.nextJoin, 0⟩ :=
        List.mem_singleton.mp (Eq.mp (congrArg (e ∈ ·) htx) he)
      rfl

/-- In the roster of a reset no station is a CONSOLE (R182). -/
theorem role_ownRoster_ne_console {t : State} (h : t.roster = ownRoster t.straps.station)
    (a : Station) : t.role a ≠ some .console := by
  rw [role_ownRoster h]
  split <;> exact nofun

/-- In the roster of a reset no station is a TRANSPORT (R96, R182). -/
theorem authority_ownRoster (a : Station) :
    (ownRoster a).findIdx? (· == some .transport) = none := by
  rw [List.findIdx?_eq_none_iff]
  intro r hr
  rcases List.mem_or_eq_of_mem_set hr with hr | rfl
  · rw [List.eq_of_mem_replicate hr]
    rfl
  · rfl

/-- LINE RESETs from stations that are no CONSOLE do nothing (R188). -/
theorem foldl_takeLineReset_of_none {as : List Station} {s : State}
    (h : ∀ a ∈ as, s.role a ≠ some .console) :
    as.foldl (fun s a => s.takeLineReset a) s = s := by
  induction as with
  | nil => rfl
  | cons a as ih =>
    obtain ⟨ha, has⟩ := List.forall_mem_cons.mp h
    rw [List.foldl_cons, State.takeLineReset, if_pos ha, ih has]

/-- Of the LINE RESETs that wait the first from a CONSOLE is taken, and no other: no station is a CONSOLE after it (R172, R188). -/
theorem foldl_takeLineReset_of_console {as : List Station} {s : State}
    (h : ∃ a ∈ as, s.role a = some .console) :
    as.foldl (fun s a => s.takeLineReset a) s = s.lineCleared.offer (presentCue false) := by
  induction as with
  | nil => obtain ⟨a, ha, -⟩ := h; cases ha
  | cons a as ih =>
    rw [List.foldl_cons]
    rcases s.takeLineReset_cases a with ⟨hnot, heq⟩ | ⟨-, heq⟩ <;> rw [heq]
    · obtain ⟨b, hb, hrole⟩ := h
      rcases List.mem_cons.mp hb with rfl | hb
      · exact absurd hrole hnot
      · exact ih ⟨b, hb, hrole⟩
    · refine foldl_takeLineReset_of_none fun b _ => role_ownRoster_ne_console ?_ b
      simp [State.lineCleared]

/-- Settles O18: a reply keeps roster, mute and waiting LINE RESETs, and the first of these from a CONSOLE is the one taken. -/
theorem serviceEnd : Obligations.ServiceEnd := by
  unfold Obligations.ServiceEnd
  intro c r data t
  obtain ⟨-, hwait, -, -, -, hmute⟩ := State.lineKept_reply (s := t) c (some (r, data))
  refine ⟨fun hnone hall => ?_, fun hnone hone => ⟨?_, rfl⟩, fun ⟨a, ha, hrole⟩ => ?_⟩
  · rw [answered, State.takeWaiting_of_none (hwait.trans hnone)]
    exact if_pos hall
  · rw [answered, State.takeWaiting_of_none (hwait.trans hnone)]
    exact if_neg hone
  · have hdone := State.lineResetDone_offer
      { t.reply c (some (r, data)) with
        line := { (t.reply c (some (r, data))).line with lineResets := [] } }
    have hanswered : answered c r data t = _ := foldl_takeLineReset_of_console
      (s := { t.reply c (some (r, data)) with
        line := { (t.reply c (some (r, data))).line with lineResets := [] } })
      ⟨a, hwait.symm ▸ ha, by simpa [State.role] using hrole⟩
    rw [← hanswered] at hdone
    obtain ⟨hfifo, hresets, htx, hlatches, hwindow, hroster, hblack, hloader, hfollower, hflight,
      hmuted, hattempts, hframe⟩ := hdone
    refine ⟨hfifo, hresets, ?_, hlatches, hwindow, ?_, hblack, ?_, ?_, ?_, ?_, hflight,
      hmuted.trans hmute, hattempts, ?_⟩
    · rw [htx]
      exact if_congr (by rw [hmute]) rfl rfl
    · simpa using hroster
    · rw [hloader]
      rfl
    · rw [hloader]
      rfl
    · rw [hloader]
      rfl
    · simpa using hfollower
    · have hreply := t.reply_eq c (some (r, data))
      have hback := congrArg (fun x : State => { x with latches := t.latches, line := t.line }) hframe
      rw [hreply] at hback
      exact hback

/-- Settles O19: taken at once, the line reset does what Table 11-4 says. -/
theorem lineResetEffects : Obligations.LineResetEffects := by
  unfold Obligations.LineResetEffects
  intro src s hrunning
  have hexec : exec (.lineReset src) s = .next (s.lineResetArrives src) :=
    whenRunning_running s _ hrunning
  by_cases hfifo : s.line.fifo = []
  case neg =>
    have hwaits : s.lineResetArrives src = _ := if_neg fun h => hfifo (List.isEmpty_iff.mp h)
    rw [if_pos hfifo, hexec, hwaits]
  have htakes : s.lineResetArrives src = s.takeLineReset src := if_pos (List.isEmpty_iff.mpr hfifo)
  rw [if_neg (not_not.mpr hfifo), hexec, htakes]
  rcases s.takeLineReset_cases src with ⟨hrole, htaken⟩ | ⟨hrole, htaken⟩ <;> rw [htaken]
  · rw [if_pos hrole]
  · rw [if_neg (not_not.mpr hrole)]
    obtain ⟨hempty, -, htx, hlatches, hwindow, hroster, hblack, hloader, hfollower, hflight,
      hmuted, hattempts, hframe⟩ := s.lineResetDone_offer
    have hstraps : (s.lineCleared.offer (presentCue false)).straps = s.straps := by
      simp [State.lineCleared]
    refine ⟨_, rfl, fun a => ?_, ?_, hlatches, hwindow, hblack, congrArg Loader.state hloader,
      congrArg Loader.target hloader, congrArg Loader.requester hloader, hfollower, hempty, hflight,
      hmuted, htx, hattempts, hframe⟩
    · rw [← hstraps]
      exact role_ownRoster (hstraps ▸ hroster)
    · rw [State.authority, hroster]
      exact authority_ownRoster _

end Sys2Proof.Machine

/-! Latches and the cue line, command by command (Chapters 10 and 12). -/

namespace Sys2Proof.Machine

open Safety

/-! ## Latches stay held (O15) -/

/-- `t` holds what `s` holds but for latches named by a CLEAR FAULTS. -/
def State.LatchesKeptBut (named : Option Byte) (s t : State) : Prop :=
  ∀ l, s.held l = true → t.held l = true ∨ ∃ m, named = some m ∧ m.getLsbD l.index = true

/-- What a line reset leaves to tell it by (R185, R188). -/
def State.Restarted (s t : State) : Prop :=
  t.latches = 0 ∧ t.rollCall = some 6750000 ∧ t.roster = ownRoster s.straps.station ∧
  t.line.fifo = []

section
variable {s t u : State}

/-- A reply clears no latch (R175). -/
theorem State.latchesKept_reply (c : Cue) (a : Answer) : s.LatchesKept (s.reply c a) := by
  unfold State.reply
  split
  next => exact .of_eq rfl
  next =>
    split
    next => exact .of_eq rfl
    next => exact State.latchesKept_offer _

/-- An owner clears the latches alone that its request names (R190). -/
theorem Owned.latches_kept {named : Option Byte} (h : Owned s named t) :
    s.LatchesKeptBut named t := by
  have hkept : ∀ {x : State}, s.LatchesKept x → s.LatchesKeptBut named x :=
    fun hx l hl => .inl (hx l hl)
  cases h with
  | @latches m hnamed =>
    intro l hl
    by_cases hm : m.getLsbD l.index = true
    · exact .inr ⟨m, hnamed, hm⟩
    · refine .inl ?_
      have hlt := l.index_lt
      unfold State.held at hl ⊢
      rw [BitVec.getLsbD_and, BitVec.getLsbD_or, BitVec.getLsbD_not]
      rw [Bool.not_eq_true] at hm
      rw [hl, hm]
      simp [hlt]
  | cancelled =>
    refine hkept (State.LatchesKept.trans (t := s.replyCancelled) ?_ (.of_eq rfl))
    unfold State.replyCancelled
    split
    next => exact State.latchesKept_offer _
    next => exact .of_eq rfl
  | undone =>
    refine hkept (.of_eq ?_)
    rw [State.undoEntry_work]
  | marked => exact hkept (.of_eq (by simp))
  | cleared => exact hkept (.of_eq (by simp [State.clearRecord]))
  | set => exact hkept (.of_eq (by simp))
  | purged => exact hkept (.of_eq (by simp))
  | primary => exact hkept (.of_eq (by simp))
  | vectors => exact hkept (.of_eq (by simp [State.editVectors]))
  | same | allocated | dropped | loadStarted | loaded | installed | enables | profile =>
    exact hkept (.of_eq rfl)

/-- A service clears the latches alone that its request names (R190). -/
theorem latchesKept_serviceWork (c : Cue) :
    s.LatchesKeptBut (namedLatches c.body) (serviceWork c s) := by
  have hkept : ∀ {x : State}, s.LatchesKept x → s.LatchesKeptBut (namedLatches c.body) x :=
    fun hx l hl => .inl (hx l hl)
  rcases serviceWork_cases c with ⟨r, f, m, -, h⟩ | ⟨-, h⟩ <;> rw [h]
  · rcases s.takePeerCut_cases c.src r.toNat f.toNat with heq | ⟨_, _, _, heq⟩ <;> rw [heq]
    · exact hkept (.of_eq rfl)
    · exact hkept (State.latchesKept_propose _ _)
  · rcases handle_cases c (ownerOf c) s with ⟨r, hr⟩ | ⟨-, -, ho⟩
    · rw [hr]
      exact hkept (State.latchesKept_reply c _)
    · rw [ho]
      exact fun l hl => ((ownerOf_owned c).latches_kept l hl).imp_left
        (State.latchesKept_reply c _ l)

/-- LINE RESETs taken at a service's end restart the engine, or clear no latch (R188, R189). -/
theorem State.takeWaiting_latches : s.LatchesKept s.takeWaiting ∨ s.Restarted s.takeWaiting := by
  unfold State.takeWaiting
  by_cases h : ∃ a ∈ s.line.lineResets, s.role a = some .console
  · obtain ⟨hfifo, -, -, hlatches, hwindow, hroster, -⟩ :=
      State.lineResetDone_offer { s with line := { s.line with lineResets := [] } }
    rw [foldl_takeLineReset_of_console
      (s := { s with line := { s.line with lineResets := [] } }) h]
    exact .inr ⟨hlatches, hwindow, hroster, hfifo⟩
  · rw [foldl_takeLineReset_of_none (s := { s with line := { s.line with lineResets := [] } })
      fun a ha hrole => h ⟨a, ha, hrole⟩]
    exact .inl (.of_eq rfl)

/-- A cue taken at its arrival restarts the engine, or clears no latch (R188, R189). -/
theorem State.takeArrival_latches (src dst : Station) (a : Arrival) :
    s.LatchesKept (s.takeArrival src dst a) ∨ s.Restarted (s.takeArrival src dst a) := by
  cases a with
  | reel id len =>
    refine .inl ?_
    dsimp only [State.takeArrival, State.takeReel]
    repeat' split
    · exact .of_eq rfl
    · exact State.latchesKept_raise _
    · exact .of_eq rfl
    · exact .of_eq rfl
  | frame n d v l k =>
    refine .inl ?_
    dsimp only [State.takeArrival, State.takeFrame]
    repeat' split
    · exact .of_eq rfl
    · exact .of_eq rfl
    · exact State.latchesKept_raise _
    · exact State.latchesKept_raise _
    · exact .of_eq rfl
  | present r ask =>
    have hrole : s.LatchesKept
        { s with roster := s.roster.set src.toNat (some (Role.ofCode r)) } := .of_eq rfl
    refine .inl ?_
    dsimp only [State.takeArrival, State.takePresent, State.answerAsk]
    repeat' split
    · exact .of_eq rfl
    · exact hrole
    · exact hrole
    · exact hrole.trans (State.latchesKept_offer _)
  | lineReset =>
    dsimp only [State.takeArrival, State.lineResetArrives]
    split
    next =>
      rcases s.takeLineReset_cases src with ⟨-, heq⟩ | ⟨-, heq⟩ <;> rw [heq]
      · exact .inl (.of_eq rfl)
      · obtain ⟨hfifo, -, -, hlatches, hwindow, hroster, -⟩ := s.lineResetDone_offer
        exact .inr ⟨hlatches, hwindow, hroster, hfifo⟩
    next => exact .inl (.of_eq rfl)
  | hold =>
    refine .inl ?_
    dsimp only [State.takeArrival, State.takeHold]
    split <;> exact .of_eq rfl
  | release =>
    refine .inl ?_
    dsimp only [State.takeArrival, State.takeHold]
    split <;> exact .of_eq rfl
  | queued r =>
    refine .inl ?_
    dsimp only [State.takeArrival, State.enqueueRx]
    split
    next => exact State.latchesKept_raise _
    next => exact .of_eq rfl

/-- Hearing the own number clears no latch (R187). -/
theorem State.latchesKept_duplicateFound : s.LatchesKept s.duplicateFound := by
  have hmuted : ∀ x : State, x.LatchesKept x.muted := fun _ => .of_eq rfl
  have hcounted : s.LatchesKept { s with freeCount := s.freeCount + 1 } := .of_eq rfl
  unfold State.duplicateFound
  dsimp only
  split
  next =>
    split
    next => exact (hcounted.trans (State.latchesKept_raise .address)).trans (hmuted _)
    next => exact (hcounted.trans (hmuted _)).trans (State.latchesKept_raise .address)
  next => exact (hmuted s).trans (State.latchesKept_raise .address)

/-- Contention touches neither latches nor FIFO, window or roster (R165). -/
theorem State.contendAtGuard_fields (e : Option TxEntry) :
    (s.contendAtGuard e).latches = s.latches ∧ (s.contendAtGuard e).rollCall = s.rollCall ∧
    (s.contendAtGuard e).roster = s.roster ∧
    (s.contendAtGuard e).line.fifo = s.line.fifo := by
  unfold State.contendAtGuard
  dsimp only
  split
  next =>
    split
    next => split <;> simp
    next => simp
  next => simp

/-- A guard's completion restarts the engine, or clears no latch. -/
theorem State.guardComplete_latches (heard : Option Frame) :
    s.LatchesKept (s.guardComplete heard) ∨ s.Restarted (s.guardComplete heard) := by
  by_cases hfree : s.line.inFlight = none
  case neg =>
    rw [State.guardComplete_of_sending heard hfree]
    exact .inl (.of_eq rfl)
  have hguard : s.LatchesKept s.atGuard := .of_eq rfl
  have hheard : s.LatchesKept (s.heardAtGuard heard) ∨ s.Restarted (s.heardAtGuard heard) := by
    unfold State.heardAtGuard
    split
    next f =>
      split
      next => exact .inl hguard
      next =>
        rcases s.atGuard.receive_cases f with h | h | h | ⟨p, a, -, -, -, -, -, h⟩ <;> rw [h]
        · exact .inl (hguard.trans (State.latchesKept_raise _))
        · exact .inl (hguard.trans State.latchesKept_duplicateFound)
        · exact .inl hguard
        · exact (State.takeArrival_latches p.src p.dst a).imp_left hguard.trans
    next => exact .inl hguard
  rw [State.guardComplete_of_free heard hfree]
  obtain ⟨hlatches, hwindow, hroster, hfifo⟩ :=
    State.contendAtGuard_fields (s := s.heardAtGuard heard) s.line.tx.head?
  refine hheard.imp (fun h => h.trans (.of_eq hlatches)) ?_
  rintro ⟨h1, h2, h3, h4⟩
  exact ⟨hlatches.trans h1, hwindow.trans h2, hroster.trans h3, hfifo.trans h4⟩

/-- The follower's boundary work clears no latch (R114). -/
theorem State.latchesKept_followBoundary : s.LatchesKept s.followBoundary := by
  have hsettled : s.LatchesKept { s with follower := s.follower.advance.settle } := .of_eq rfl
  unfold State.followBoundary
  dsimp only
  split
  next => exact hsettled.trans (State.latchesKept_raise _)
  next => exact hsettled

/-- The syncs clear no latch (R159, R160). -/
theorem State.latchesKept_syncs (p : Bool) :
    s.LatchesKept (s.fieldSync p) ∧ s.LatchesKept s.missingSync := by
  have hlost : ∀ x : State, x.LatchesKept x.loseLock := by
    intro x l hl
    rw [State.held, x.loseLock_event.2]
    exact State.latchesKept_raise .syncLost l hl
  constructor
  · rcases s.fieldSync_cases p with ⟨r, v, -, -, h⟩ | ⟨r, v, -, -, -, h⟩ | ⟨-, h⟩ <;> rw [h]
    · have hsync : s.LatchesKept { s with raster := r, video := v } := .of_eq rfl
      exact (hsync.trans State.latchesKept_followBoundary).trans State.latchesKept_fieldBoundary
    · exact .of_eq rfl
    · exact (hlost s).trans (.of_eq rfl)
  · rcases s.missingSync_cases with ⟨r, -, h⟩ | ⟨-, h⟩ <;> rw [h]
    · exact .of_eq rfl
    · have hexpired : s.LatchesKept s.expired := .of_eq rfl
      exact hexpired.trans (hlost s.expired)

/-- A command that is no service and not one of RESET restarts the engine, or clears no latch. -/
theorem plainWork_latches {c : Instr} (hreset : ¬ IsReset c) (hservice : serviceCue c = none)
    (harrival : arrivalCommand c = none) :
    s.LatchesKept (plainWork c s) ∨ s.Restarted (plainWork c s) := by
  cases c
  case powerOnReset straps => exact absurd (.inr ⟨straps, rfl⟩) hreset
  case resetAsserted => exact absurd (.inl rfl) hreset
  case reel | frame | present | lineReset | hold | release => cases harrival
  case lineSync | rollCallWindowEnd | deferralYield => exact .inl (.of_eq rfl)
  case fieldSync p => exact .inl (State.latchesKept_syncs p).1
  case missingSyncExpiry => exact .inl (State.latchesKept_syncs true).2
  case pixelClock => exact .inl (.of_eq (by simp [plainWork]))
  case guardComplete heard => exact State.guardComplete_latches heard
  case transmitStart =>
    refine .inl (.of_eq ?_)
    unfold plainWork State.transmitStart
    dsimp only
    split <;> rfl
  case transmitComplete =>
    refine .inl (.of_eq ?_)
    unfold plainWork State.transmitComplete
    dsimp only
    split <;> rfl
  case transmitAbandon =>
    refine .inl ?_
    unfold plainWork State.transmitAbandon
    dsimp only
    split
    next j _ =>
      have hdropped : s.LatchesKept
          { s with line := { s.line with tx := dropTx j s.line.tx, inFlight := none } } := .of_eq rfl
      split
      next => exact hdropped.trans (State.latchesKept_raise _)
      next => exact .of_eq rfl
    next => exact .of_eq rfl
  all_goals cases hservice

/-- A request that names latches comes from the command that names them (R190). -/
theorem clearFaults_of_namedLatches {i : Instr} {c : Cue} {m : Byte} (hi : serviceCue i = some c)
    (hm : namedLatches c.body = some m) : ∃ src dst, i = .clearFaults src dst m := by
  cases i <;> cases hi <;> cases hm
  exact ⟨_, _, rfl⟩

/-- Settles O15: no event clears a latch, and of the services CLEAR FAULTS alone. -/
theorem latchesStayHeld : Obligations.LatchesStayHeld := by
  unfold Obligations.LatchesStayHeld
  intro c s t l hexec hheld hclear
  have hlost : ¬ s.LatchesKept t := fun h => Bool.eq_false_iff.mp hclear (h l hheld)
  cases effect_of_exec hexec with
  | powerOn straps => exact .inl (.inr ⟨straps, rfl⟩)
  | asserted => exact .inl (.inl rfl)
  | held => exact absurd (.of_eq rfl) hlost
  | arrival => exact .inr (.inr ((State.takeArrival_latches _ _ _).resolve_left hlost))
  | plain hreset harrival hservice =>
    exact .inr (.inr ((plainWork_latches hreset hservice harrival).resolve_left hlost))
  | @service _ x hservice =>
    have hnamed : ∀ u : State, u.latches = s.latches → (serviceWork x u).held l = false →
        ∃ src dst mask, c = .clearFaults src dst mask ∧ mask.getLsbD l.index = true := by
      intro u hu hgone
      rcases latchesKept_serviceWork x l (by rwa [State.held, hu]) with h | ⟨m, hm, hbit⟩
      · exact absurd h (Bool.eq_false_iff.mp hgone)
      · obtain ⟨src, dst, rfl⟩ := clearFaults_of_namedLatches hservice hm
        exact ⟨src, dst, m, rfl, hbit⟩
    rcases serve_cases x (serviceWork x) s with h | ⟨-, -, h⟩ | ⟨-, h⟩ <;> rw [h] at hlost hclear ⊢
    · exact absurd (.of_eq rfl) hlost
    · exact .inr (.inl (hnamed s rfl hclear))
    · rcases State.takeWaiting_latches (s := serviceWork x (served s)) with hkept | hrestarted
      · refine .inr (.inl (hnamed (served s) rfl ?_))
        exact Bool.eq_false_iff.mpr fun hx => Bool.eq_false_iff.mp hclear (hkept l hx)
      · obtain ⟨hlatches, hwindow, hroster, hfifo⟩ := hrestarted
        have hstraps : (serviceWork x (served s)).straps = s.straps :=
          (moves_serviceWork (s := served s) x).1
        exact .inr (.inr ⟨hlatches, hwindow, hstraps ▸ hroster, hfifo⟩)

end

end Sys2Proof.Machine

/-! The cue line's own commands: guard, transmitter, offers and latch events (Sections 10.1, 10.5, 12.1, 12.2). -/

namespace Sys2Proof.Machine

open Safety

/-! ## The guard -/

/-- On a line that has just gone idle the first cue of the queue is the one deferred for, unless the transmitter is muted (R165, R179). -/
theorem Line.contend_atGuard (a : Station) {l : Line} (h : l.inFlight = none) :
    Line.contend a { l with idle := true, deferral := none } = { l with
      idle := true
      deferral := if l.mute then none else
        l.tx.head?.map (fun e => ⟨e.joined, e.cls * 15 + a.toNat⟩) } := by
  unfold Line.contend
  cases hmute : l.mute <;> simp [h, deferralSlots]

/-- With nothing received, contention at a guard begins with the queue's first cue (R165). -/
theorem State.contendAtGuard_head {s : State} (h : s.line.inFlight = none) :
    s.contendAtGuard s.line.tx.head? = { s with line := { s.line with
      idle := true
      deferral := if s.line.mute then none else
        s.line.tx.head?.map (fun e => ⟨e.joined, e.cls * 15 + s.straps.station.toNat⟩) } } := by
  unfold State.contendAtGuard
  rw [Line.contend_atGuard s.straps.station h]
  dsimp only
  cases htx : s.line.tx with
  | nil => rfl
  | cons e q => simp

/-- Settles O20: the own cue heard is taken no more than silence, and no guard completes under a cue of the own. -/
theorem guardStartsDeferral : Obligations.GuardStartsDeferral := by
  unfold Obligations.GuardStartsDeferral
  intro heard s hrunning
  have hexec : exec (.guardComplete heard) s = .next (s.guardComplete heard) :=
    whenRunning_running s _ hrunning
  rw [hexec]
  refine ⟨fun hfree hown => ?_, fun hsending => by rw [State.guardComplete_of_sending heard hsending]⟩
  have hheard : s.heardAtGuard heard = s.atGuard := by
    unfold State.heardAtGuard
    split
    next f => rw [if_pos ((s.isOwnCue_iff f).mpr (hown f rfl))]
    next => rfl
  rw [State.guardComplete_of_free heard hfree, hheard]
  exact congrArg _ (State.contendAtGuard_head (s := s.atGuard) hfree)

/-! ## The bytes of a cue (R167, R170) -/

/-- One bit of the check as R167 takes it: the bit meets the register's top bit. -/
def serialBit (check : BitVec 16) (bit : Bool) : BitVec 16 :=
  (check <<< 1) ^^^ (if check.msb != bit then 0x1021 else 0)

/-- A byte XORed into the register's upper half is a byte whose bits are met one by one: the first bit is met, the others wait. -/
theorem crcBit_xor (c : BitVec 16) (m : Byte) :
    crcBit (c ^^^ (m ++ (0 : Byte))) = serialBit c m.msb ^^^ ((m <<< 1) ++ (0 : Byte)) := by
  have hwait : (m ++ (0 : Byte)) <<< 1 = (m <<< 1) ++ (0 : Byte) := by
    refine BitVec.eq_of_getLsbD_eq fun i hi => ?_
    simp only [BitVec.getLsbD_shiftLeft, BitVec.getLsbD_append]
    interval_cases i <;> simp
  have hshift : (c ^^^ (m ++ (0 : Byte))) <<< 1 = (c <<< 1) ^^^ ((m <<< 1) ++ (0 : Byte)) := by
    rw [BitVec.shiftLeft_xor_distrib, hwait]
  have hmsb : (c ^^^ (m ++ (0 : Byte))).msb = (c.msb != m.msb) := by
    rw [BitVec.msb_xor, BitVec.msb_append]
    rfl
  unfold crcBit serialBit
  rw [hmsb, hshift]
  split
  · rw [BitVec.xor_assoc, BitVec.xor_assoc, BitVec.xor_comm (0x1021)]
  · simp

/-- A byte of the check is its eight bits, the most significant first. -/
theorem crcByte_eq (c : BitVec 16) (b : Byte) :
    crcByte c b = ((List.range 8).map (fun i => b.getLsbD (7 - i))).foldl serialBit c := by
  unfold crcByte
  simp only [crcBit_xor]
  have hgone : b <<< 1 <<< 1 <<< 1 <<< 1 <<< 1 <<< 1 <<< 1 <<< 1 = 0#8 := by
    simp [← BitVec.shiftLeft_add]
  rw [hgone]
  simp [List.range_succ, ← BitVec.shiftLeft_add, BitVec.msb_eq_getLsbD_last]

/-- The check is the bit-serial one (R167). -/
theorem serialCheck_eq (bs : List Byte) : serialCheck bs = crc16 bs := by
  have hfold : ∀ (bs : List Byte) (c : BitVec 16),
      (bs.flatMap (fun b => (List.range 8).map (fun i => b.getLsbD (7 - i)))).foldl serialBit c =
        bs.foldl crcByte c := by
    intro bs
    induction bs with
    | nil => exact fun _ => rfl
    | cons b bs ih =>
      intro c
      rw [List.flatMap_cons, List.foldl_append, List.foldl_cons, crcByte_eq, ih]
  exact hfold bs 0xFFFF

/-! ## The transmitter -/

section
variable {s : State} {e : TxEntry}

/-- The cue in flight is the queued one of its joining number. -/
theorem Line.Sound.find_inFlight (h : s.line.Sound) (he : e ∈ s.line.tx) :
    s.line.tx.find? (fun x => x.joined == e.joined) = some e := by
  cases hfind : s.line.tx.find? (fun x => x.joined == e.joined) with
  | none =>
    have hnone := List.find?_eq_none.mp hfind e he
    simp at hnone
  | some x =>
    have hx := List.find?_some hfind
    rw [h.queue.eq_of_joined (List.mem_of_find?_eq_some hfind) he (beq_iff_eq.mp hx)]

/-- The cue that leaves the queue by its joining number is that cue alone. -/
theorem Line.Sound.dropTx_eq (h : s.line.Sound) (he : e ∈ s.line.tx) :
    dropTx e.joined s.line.tx = s.line.tx.filter (fun x => x ≠ e) := by
  refine List.filter_congr fun x hx => ?_
  rw [Bool.eq_iff_iff, bne_iff_ne, decide_eq_true_iff]
  exact not_congr ⟨fun hj => h.queue.eq_of_joined hx he hj, fun hx => hx ▸ rfl⟩

/-- The attempt counted is that cue's alone. -/
theorem Line.Sound.bumpAttempts_eq (h : s.line.Sound) (he : e ∈ s.line.tx) :
    bumpAttempts e.joined s.line.tx =
      s.line.tx.map (fun x => if x = e then { e with attempts := e.attempts + 1 } else x) := by
  refine List.map_congr_left fun x hx => ?_
  by_cases hj : x.joined = e.joined
  · obtain rfl := h.queue.eq_of_joined hx he hj
    rw [if_pos rfl, if_pos rfl]
  · have hne : x ≠ e := fun hxe => hj (congrArg _ hxe)
    rw [if_neg hj, if_neg hne]

/-- The attempt was the cue's fourth when three were abandoned before it (R166). -/
theorem Line.Sound.exhausted_iff (h : s.line.Sound) (he : e ∈ s.line.tx) :
    exhausted e.joined s.line.tx = true ↔ e.attempts = 3 := by
  have hle := (h.queue.entries e he).2
  unfold exhausted
  rw [List.any_eq_true]
  constructor
  · rintro ⟨x, hx, hsame⟩
    simp only [Bool.and_eq_true, beq_iff_eq, decide_eq_true_eq] at hsame
    obtain rfl := h.queue.eq_of_joined hx he hsame.1
    omega
  · exact fun hthree => ⟨e, he, by simp [hthree]⟩

/-- With room, an event keeps every queued cue and adds at most its FAULT (R177, R191). -/
theorem State.raise_tx_of_room {l : Latch} (hroom : s.line.tx.length < 8) :
    (s.raise l).line.tx = s.line.tx ∨
    ∃ c, (s.raise l).line.tx = insertTx ⟨c, s.line.nextJoin, 0⟩ s.line.tx := by
  unfold State.raise
  split
  next => exact .inl rfl
  next =>
    dsimp only
    split
    next =>
      cases hmute : s.line.mute with
      | true => rw [State.offer_of_mute (s := s.latch l) hmute]; exact .inl rfl
      | false =>
        rw [State.offer_of_room (s := s.latch l) hmute hroom]
        refine .inr ⟨faultCue l (s.latch l).latches, ?_⟩
        simp [Line.join]
    next => exact .inl rfl

/-- The four bits of two stations make one byte, the destination's first (Table 10-3). -/
theorem stations_append (dst src : Station) :
    dst ++ src = byteOf (16 * dst.toNat + src.toNat) := by
  refine BitVec.eq_of_toNat_eq ?_
  have hdst := dst.isLt
  have hsrc := src.isLt
  rw [byteOf, BitVec.toNat_ofNat, BitVec.toNat_append, Nat.shiftLeft_eq, Nat.mod_eq_of_lt (by omega),
    ← Nat.shiftLeft_eq, ← Nat.shiftLeft_add_eq_or_of_lt hsrc, Nat.shiftLeft_eq]
  omega

end

/-- After the fourth attempt the cue is discarded and LINE_CHECK set: its FAULT finds the room that the cue leaves (R166). -/
theorem abandoned_discards {s : State} {e : TxEntry} (h : s.line.Sound) (he : e ∈ s.line.tx) :
    ∃ t : State, Host.Outcome.next (State.raise .lineCheck { s with line := { s.line with
        tx := s.line.tx.filter (fun x => x ≠ e), inFlight := none } }) =
        (.next t : Host.Outcome State Fault Refusal) ∧ t.held .lineCheck = true ∧
      e ∉ t.line.tx ∧ (∀ x ∈ s.line.tx, x ≠ e → x ∈ t.line.tx) ∧ t.line.inFlight = none ∧
      t.line.fifo = s.line.fifo ∧ { t with line := s.line, latches := s.latches } = s := by
  generalize hu : ({ s with line := { s.line with
    tx := s.line.tx.filter (fun x => x ≠ e), inFlight := none } } : State) = u
  have htx : u.line.tx = s.line.tx.filter (fun x => x ≠ e) := by rw [← hu]
  have hroom : u.line.tx.length < 8 := by
    rw [htx]
    refine Nat.lt_of_lt_of_le (List.length_filter_lt_length_iff_exists.mpr ⟨e, he, ?_⟩)
      h.queue.length
    simp
  have hnew : u.line.nextJoin ≠ e.joined := by
    rw [← hu]
    exact (h.queue.entries e he).1.ne'
  have hkept : e ∉ (u.raise .lineCheck).line.tx ∧
      ∀ x ∈ s.line.tx, x ≠ e → x ∈ (u.raise .lineCheck).line.tx := by
    rcases State.raise_tx_of_room (l := .lineCheck) hroom with heq | ⟨c, heq⟩ <;> rw [heq]
    · rw [htx]
      exact ⟨by simp, fun x hx hne => by simp [hx, hne]⟩
    · refine ⟨fun hmem => ?_, fun x hx hne => (mem_insertTx _ _ _).mpr (.inr (by simp [htx, hx, hne]))⟩
      rcases (mem_insertTx _ _ _).mp hmem with rfl | hmem
      · exact hnew rfl
      · simp [htx] at hmem
  obtain ⟨hfifo, -, hflight, -⟩ := State.lineKept_raise (s := u) .lineCheck
  refine ⟨_, rfl, State.held_raise _, hkept.1, hkept.2, ?_, ?_, ?_⟩
  · rw [hflight, ← hu]
  · rw [hfifo, ← hu]
  · rw [State.raise_eq, ← hu]

/-- Settles O21: the cue in flight is found by its joining number, which no other queued cue has; its check is the bit-serial one. -/
theorem transmitterCommands : Obligations.TransmitterCommands := by
  unfold Obligations.TransmitterCommands
  intro s hrunning hline
  obtain ⟨hsound, -, -⟩ := lineSound_iff.mp hline
  have hstart : exec .transmitStart s = .next s.transmitStart := whenRunning_running s _ hrunning
  have hcomplete : exec .transmitComplete s = .next s.transmitComplete :=
    whenRunning_running s _ hrunning
  have habandon : exec .transmitAbandon s = .next s.transmitAbandon :=
    whenRunning_running s _ hrunning
  rw [hstart, hcomplete, habandon]
  refine ⟨fun d hd => ?_, fun hnone => ?_, ?_, fun e he hflight => ⟨?_, fun hleft => ?_, fun hthree => ?_⟩,
    fun hnone => ⟨?_, ?_, ?_⟩, fun e he hflight => ?_⟩
  · simp only [State.transmitStart, hd]
  · simp only [State.transmitStart, hnone]
  · exact whenRunning_running s
      (fun s => { s with line := { s.line with idle := false, deferral := none } }) hrunning
  · simp only [State.transmitComplete, hflight, hsound.dropTx_eq he]
  · have hnot : exhausted e.joined s.line.tx = false :=
      Bool.eq_false_iff.mpr fun h => by have := (hsound.exhausted_iff he).mp h; omega
    simp only [State.transmitAbandon, hflight, hnot, hsound.bumpAttempts_eq he]
    rfl
  · have hexhausted := (hsound.exhausted_iff he).mpr hthree
    simp only [State.transmitAbandon, hflight, hexhausted, hsound.dropTx_eq he, if_true]
    exact abandoned_discards hsound he
  · simp only [State.onLine, hnone]
  · simp only [State.transmitComplete, hnone]
  · simp only [State.transmitAbandon, hnone]
  · have honLine : s.onLine = some (s.cueOnLine e) := by
      simp only [State.onLine, hflight, hsound.find_inFlight he, Option.map_some]
    refine ⟨txKind e.cue.body, txPayload e.cue.body,
      cueBody (txKind e.cue.body) e.cue.dst s.straps.station (txPayload e.cue.body), ?_, ?_, ?_⟩
    · cases e.cue.body with
      | reply request result data => cases result <;> exact ⟨rfl, rfl⟩
      | sceneEntered _ _ _ _ made => cases made <;> exact ⟨rfl, rfl⟩
      | fault | cut | present => exact ⟨rfl, rfl⟩
    · rw [cueBody, stations_append]
    · rw [honLine, serialCheck_eq, State.cueOnLine, cueBytes, natBytes, BitVec.ofNat_toNat,
        BitVec.setWidth_eq]

end Sys2Proof.Machine

/-! Offers to the transmit queue and the events of the latches, in full (R165, R177, R178, R191). -/

namespace Sys2Proof.Machine

open Safety

/-! ## Offers (O22) -/

/-- In a queue in class order the cues of a class up to `n` come first (R177). -/
theorem filter_append_filter_cls {n : Nat} {q : List TxEntry}
    (h : q.Pairwise (fun a b => a.cls ≤ b.cls)) :
    q.filter (fun x => x.cls ≤ n) ++ q.filter (fun x => n < x.cls) = q := by
  induction q with
  | nil => rfl
  | cons a q ih =>
    obtain ⟨ha, hq⟩ := List.pairwise_cons.mp h
    by_cases hle : a.cls ≤ n
    · rw [List.filter_cons_of_pos (by simpa using hle), List.filter_cons_of_neg (by simpa using hle),
        List.cons_append, ih hq]
    · have hgt : n < a.cls := Nat.not_le.mp hle
      have hnone : q.filter (fun x => x.cls ≤ n) = [] :=
        List.filter_eq_nil_iff.mpr fun x hx => by simpa using hgt.trans_le (ha x hx)
      have hall : q.filter (fun x => n < x.cls) = q :=
        List.filter_eq_self.mpr fun x hx => by simpa using hgt.trans_le (ha x hx)
      rw [List.filter_cons_of_neg (by simpa using hle), List.filter_cons_of_pos (by simpa using hgt),
        hnone, hall, List.nil_append]

section
variable {s : State} {l : Line} {c : TxCue}

/-- A sound queue is in class order (R177). -/
theorem Line.QueueSound.cls_order (h : l.QueueSound) : l.tx.Pairwise (fun a b => a.cls ≤ b.cls) :=
  h.order.imp fun hab => hab.elim Nat.le_of_lt fun heq => heq.1.le

/-- A cue joins a sound queue between the cues of its class or a lower one and the others (R177). -/
theorem Line.QueueSound.join_place (h : l.QueueSound) (a : Station) (c : TxCue) :
    ∃ before after, l.tx = before ++ after ∧
      (l.join a c).tx = before ++ ⟨c, l.nextJoin, 0⟩ :: after ∧
      (∀ x ∈ before, x.cls ≤ c.body.cls) ∧ (∀ x ∈ after, c.body.cls < x.cls) := by
  obtain ⟨-, -, htx, -⟩ := Line.contend_fields a
    { l with tx := insertTx ⟨c, l.nextJoin, 0⟩ l.tx, nextJoin := l.nextJoin + 1 }
  refine ⟨_, _, (filter_append_filter_cls (n := c.body.cls) h.cls_order).symm, htx, ?_, ?_⟩
  · exact fun x hx => of_decide_eq_true (List.mem_filter.mp hx).2
  · exact fun x hx => of_decide_eq_true (List.mem_filter.mp hx).2

/-- The victim leaves one place (R178). -/
theorem Line.QueueSound.length_filter_joined (h : l.QueueSound) {v : TxEntry} (hv : v ∈ l.tx) :
    (l.tx.filter (fun e => e.joined != v.joined)).length + 1 = l.tx.length := by
  have hnodup : (l.tx.map (·.joined)).Nodup := List.pairwise_map.mpr h.distinct
  have hone : l.tx.countP (fun e => e.joined == v.joined) = 1 := by
    have hcount := List.count_eq_one_of_mem hnodup (List.mem_map_of_mem hv)
    rwa [List.count, List.countP_map] at hcount
  have hsplit := List.length_eq_countP_add_countP (fun e : TxEntry => e.joined == v.joined)
    (l := l.tx)
  have hrest : l.tx.countP (fun e => decide ¬(e.joined == v.joined) = true) =
      (l.tx.filter (fun e => e.joined != v.joined)).length := by
    rw [List.countP_eq_length_filter]
    refine congrArg List.length (List.filter_congr fun x _ => ?_)
    rw [Bool.eq_iff_iff]
    simp
  omega

/-- A full queue is full after an offer: the cue takes the victim's place, or is lost (R178). -/
theorem Line.Sound.offered_full (h : l.Sound) (a : Station) (c : TxCue) (hfull : l.txFull = true) :
    (l.offered a c).txFull = true := by
  have hlength : 8 ≤ l.tx.length := of_decide_eq_true hfull
  unfold Line.offered
  rw [if_pos hfull]
  split
  next v hv =>
    have hone := h.queue.length_filter_joined (victim_eq_some hv).1.1
    have hjoined : (Line.join a c { l with tx := l.tx.filter (fun e => e.joined != v.joined) }).tx =
        insertTx ⟨c, l.nextJoin, 0⟩ (l.tx.filter (fun e => e.joined != v.joined)) := by
      simp [Line.join]
    rw [Line.txFull, hjoined, length_insertTx, hone]
    exact hfull
  next => exact hfull

/-- An offer's cue and the deferral: one whose cue stays goes on; when none stays and the queue has changed, the first cue of an idle line begins one (R165, log 34). -/
theorem Line.offered_deferral (a : Station) (c : TxCue) (l : Line) (hmute : l.mute = false) :
    (∀ d ∈ l.deferral, (∃ e ∈ (l.offered a c).tx, e.joined = d.joined) →
      (l.offered a c).deferral = some d) ∧
    ((∀ d ∈ l.deferral, ∀ e ∈ (l.offered a c).tx, e.joined ≠ d.joined) →
      (l.offered a c).tx ≠ l.tx →
      (l.offered a c).deferral =
        if l.idle = true ∧ l.inFlight = none then
          (l.offered a c).tx.head?.map (fun e => ⟨e.joined, e.cls * 15 + a.toNat⟩)
        else none) := by
  have hjoin : ∀ k : Line, k.mute = false →
      (∀ d ∈ k.deferral, (∃ e ∈ (k.join a c).tx, e.joined = d.joined) →
        (k.join a c).deferral = some d) ∧
      ((∀ d ∈ k.deferral, ∀ e ∈ (k.join a c).tx, e.joined ≠ d.joined) →
        (k.join a c).deferral =
          if k.idle = true ∧ k.inFlight = none then
            (k.join a c).tx.head?.map (fun e => ⟨e.joined, e.cls * 15 + a.toNat⟩)
          else none) := by
    intro k hk
    obtain ⟨hgoes, hfresh⟩ := Line.contend_deferral a
      { k with tx := insertTx ⟨c, k.nextJoin, 0⟩ k.tx, nextJoin := k.nextJoin + 1 }
    obtain ⟨-, -, htx, -⟩ := Line.contend_fields a
      { k with tx := insertTx ⟨c, k.nextJoin, 0⟩ k.tx, nextJoin := k.nextJoin + 1 }
    refine ⟨fun d hd he => hgoes d hd (htx ▸ he), fun hgone => ?_⟩
    have hdeferral := hfresh fun d hd e he => hgone d hd e (htx.symm ▸ he)
    rw [Line.join, hdeferral, htx]
    simp only [hk, true_and, deferralSlots]
  unfold Line.offered
  split
  next =>
    split
    next v _ =>
      obtain ⟨hgoes, hfresh⟩ := hjoin { l with tx := l.tx.filter (fun e => e.joined != v.joined) } hmute
      exact ⟨hgoes, fun hgone _ => hfresh hgone⟩
    next =>
      refine ⟨fun d hd _ => hd, fun _ hchanged => absurd rfl hchanged⟩
  next =>
    obtain ⟨hgoes, hfresh⟩ := hjoin l hmute
    exact ⟨hgoes, fun hgone _ => hfresh hgone⟩

/-- TX_OVERFLOW held, or not reported, is held after its event with nothing offered (R178). -/
theorem State.overflow_silent (h : s.held .txOverflow = true ∨ s.reports .txOverflow = false) :
    s.overflow = { s with latches := s.latches ||| 4 } := by
  unfold State.overflow
  split
  next hheld =>
    have hlatches : s.latches ||| 4 = s.latches := by
      refine BitVec.eq_of_getLsbD_eq fun i hi => ?_
      have hbit : s.latches.getLsbD 2 = true := hheld
      rw [BitVec.getLsbD_or]
      interval_cases i <;> simp [hbit]
    rw [hlatches]
  next hclear =>
    have hunreported : s.reports .txOverflow = false := h.resolve_left hclear
    exact if_neg (Bool.eq_false_iff.mp hunreported)

/-- An offer to a full queue, TX_OVERFLOW held or unreported: the line takes it as it can, and TX_OVERFLOW is held (R178). -/
theorem State.offer_of_full (hmute : s.line.mute = false) (hfull : s.line.txFull = true)
    (h : s.held .txOverflow = true ∨ s.reports .txOverflow = false) :
    s.offer c = { s with
      line := s.line.offered s.straps.station c, latches := s.latches ||| 4 } := by
  have hoverflow := State.overflow_silent
    (s := { s with line := s.line.offered s.straps.station c }) h
  simp only [State.offer, hmute, hfull, if_true, Bool.false_eq_true, if_false]
  exact hoverflow

/-- The youngest of the cues that may give way is the victim, and the offered cue takes its place among the others (R178). -/
theorem Line.Sound.offered_victim (h : l.Sound) (a : Station) (hfull : l.txFull = true) {v : TxEntry}
    (hv : v ∈ l.tx) (hcls : c.body.cls < v.cls) (hflight : some v.joined ≠ l.inFlight)
    (hyoungest : ∀ x ∈ l.tx, c.body.cls < x.cls → some x.joined ≠ l.inFlight →
      x.joined ≤ v.joined) :
    l.offered a c = Line.join a c { l with tx := l.tx.filter (fun e => e.joined != v.joined) } := by
  have hvictim : victim c.body.cls l.inFlight l.tx = some v := by
    cases hfound : victim c.body.cls l.inFlight l.tx with
    | none => exact absurd (victim_eq_none.mp hfound v hv hcls) hflight
    | some w =>
      obtain ⟨⟨hw, hwcls, hwflight⟩, hmax⟩ := victim_eq_some hfound
      have hsame := (hyoungest w hw hwcls hwflight).antisymm (hmax v hv hcls hflight)
      rw [h.queue.eq_of_joined hw hv hsame]
  rw [Line.offered, if_pos hfull, hvictim]

/-- When no cue may give way the offered one is lost (R178). -/
theorem Line.offered_lost (a : Station) (hfull : l.txFull = true)
    (hnone : ∀ v ∈ l.tx, c.body.cls < v.cls → some v.joined = l.inFlight) : l.offered a c = l := by
  rw [Line.offered, if_pos hfull, victim_eq_none.mpr hnone]

/-- The others of a queue are those with another joining number. -/
theorem Line.QueueSound.filter_ne (h : l.QueueSound) {v : TxEntry} (hv : v ∈ l.tx) :
    l.tx.filter (fun e => e.joined != v.joined) = l.tx.filter (fun x => x ≠ v) := by
  refine List.filter_congr fun x hx => ?_
  rw [Bool.eq_iff_iff, bne_iff_ne, decide_eq_true_iff]
  exact not_congr ⟨fun hj => h.eq_of_joined hx hv hj, fun hxv => congrArg _ hxv⟩

/-- Unmuted, and with room or with TX_OVERFLOW held or unreported, the line is as the one offer leaves it. -/
theorem State.offer_line_of_silent (hmute : s.line.mute = false)
    (h : s.line.tx.length < 8 ∨ s.held .txOverflow = true ∨ s.reports .txOverflow = false) :
    (s.offer c).line = s.line.offered s.straps.station c := by
  cases hfull : s.line.txFull with
  | true =>
    have hnot : ¬ s.line.tx.length < 8 := fun hroom => by
      rw [Line.txFull_eq_false.mpr hroom] at hfull
      cases hfull
    rw [State.offer_of_full hmute hfull (h.resolve_left hnot)]
  | false =>
    rw [State.offer_of_room hmute (Line.txFull_eq_false.mp hfull), Line.offered, if_neg (by simp [hfull])]

end

/-- Settles O22: an offer is at most two offers to the line, the second that of TX_OVERFLOW's FAULT. -/
theorem queueOffer : Obligations.QueueOffer := by
  unfold Obligations.QueueOffer
  intro c s hline
  obtain ⟨hsound, -, -⟩ := lineSound_iff.mp hline
  have hfull : s.line.tx.length = 8 → s.line.txFull = true := fun h => decide_eq_true h.ge
  refine ⟨State.offer_of_mute, fun hmute hroom => ?room, fun hmute hlength hsilent => ?full,
    fun hmute hlength hclear hreported => ?twice, fun hmute hsilent => ?deferral⟩
  case room =>
    rw [State.offer_of_room hmute hroom]
    exact ⟨hsound.queue.join_place _ c, rfl⟩
  case full =>
    rw [State.offer_of_full hmute (hfull hlength) hsilent]
    refine ⟨rfl, fun v hv hcls hflight hyoungest => ?_, fun hnone => ?_⟩
    · have hplace := (hsound.queue.filter (fun e => e.joined != v.joined)).join_place
        s.straps.station c
      rw [← hsound.queue.filter_ne hv, hsound.offered_victim _ (hfull hlength) hv hcls hflight hyoungest]
      exact hplace
    · exact Line.offered_lost _ (hfull hlength) hnone
  case twice =>
    have hheld : ∀ x : State, x.latches = s.latches ||| 4 →
        x.held .txOverflow = true ∨ x.reports .txOverflow = false := by
      intro x hx
      refine .inl ?_
      rw [State.held, hx, BitVec.getLsbD_or]
      exact Bool.or_true _
    have hagain : (s.latches ||| 4) ||| 4 = s.latches ||| (4 : BitVec 8) := by
      rw [BitVec.or_assoc, BitVec.or_self]
    have hinner := State.offer_of_full (s := { s with latches := s.latches ||| 4 }) (c := c) hmute
      (hfull hlength) (hheld _ rfl)
    rw [hinner, hagain]
    have houter := State.offer_of_full (c := ⟨15, .fault 4 (s.latches ||| 4)⟩)
      (s := { s with line := s.line.offered s.straps.station c, latches := s.latches ||| 4 })
      (by simpa using hmute) (hsound.offered_full _ c (hfull hlength)) (hheld _ rfl)
    rw [houter, hagain]
    simp only [State.offer, hmute, hfull hlength, if_true, Bool.false_eq_true, if_false]
    unfold State.overflow
    exact (if_neg (Bool.eq_false_iff.mp hclear)).trans (if_pos hreported)
  case deferral =>
    rw [State.offer_line_of_silent hmute hsilent]
    exact Line.offered_deferral _ c s.line hmute

/-! ## Latch events (O23) -/

section
variable {s : State} {l k : Latch}

/-- Setting a latch's bit sets that latch alone. -/
theorem held_or_bit {w : BitVec 8} :
    (w ||| l.bit).getLsbD k.index = (w.getLsbD k.index || decide (l = k)) := by
  rw [BitVec.getLsbD_or, Latch.bit_getLsbD]

/-- Of the latches an offer touches TX_OVERFLOW alone (R178). -/
theorem State.held_offer (c : TxCue) (h : k ≠ .txOverflow) : (s.offer c).held k = s.held k := by
  have hoverflow : ∀ x : State, x.overflow.held k = x.held k := by
    intro x
    have hlatch : (x.latch .txOverflow).held k = x.held k := by
      simp only [State.held, State.latch, held_or_bit, decide_eq_false h.symm, Bool.or_false]
    unfold State.overflow
    dsimp only
    split
    next => rfl
    next => split <;> exact hlatch
  unfold State.offer
  dsimp only
  split
  next => rfl
  next =>
    split
    next => exact hoverflow _
    next => rfl

/-- A clear latch's event sets it, and touches of the others TX_OVERFLOW alone (R178, R189). -/
theorem State.held_raise_ne (hk : k ≠ l) (hover : k ≠ .txOverflow) :
    (s.raise l).held k = s.held k := by
  have hlatch : (s.latch l).held k = s.held k := by
    simp only [State.held, State.latch, held_or_bit, decide_eq_false hk.symm, Bool.or_false]
  unfold State.raise
  dsimp only
  split
  next => rfl
  next =>
    split
    next => exact (State.held_offer _ hover).trans hlatch
    next => exact hlatch

/-- A clear latch whose report is off is set, and nothing is offered (R191). -/
theorem State.raise_unreported (h : s.held l = false) (hr : s.reports l = false) :
    s.raise l = s.latch l := by
  rw [State.raise, if_neg (Bool.eq_false_iff.mp h)]
  exact if_neg (Bool.eq_false_iff.mp hr)

/-- A clear latch whose report is on is set, and its FAULT offered (R191). -/
theorem State.raise_reported (h : s.held l = false) (hr : s.reports l = true) :
    s.raise l = (s.latch l).offer (faultCue l (s.latches ||| l.bit)) := by
  rw [State.raise, if_neg (Bool.eq_false_iff.mp h)]
  exact if_pos hr

/-- Every bit of the latches is that of a latch. -/
theorem Latch.exists_index {i : Nat} (h : i < 8) : ∃ l : Latch, l.index = i := by
  interval_cases i
  · exact ⟨.lineCheck, rfl⟩
  · exact ⟨.rxOverrun, rfl⟩
  · exact ⟨.txOverflow, rfl⟩
  · exact ⟨.syncLost, rfl⟩
  · exact ⟨.timing, rfl⟩
  · exact ⟨.coastHold, rfl⟩
  · exact ⟨.tableFull, rfl⟩
  · exact ⟨.address, rfl⟩

/-- ATTN is driven while a latch is held whose report is on, RESET apart (R191). -/
theorem State.attnDriven_iff (s : State) : s.attnDriven = true ↔
    s.resetHeld = false ∧ ∃ l, s.held l = true ∧ s.reports l = true := by
  have hbits : (s.latches &&& s.enables.setWidth 8) ≠ 0 ↔
      ∃ l, s.held l = true ∧ s.reports l = true := by
    have hbit : ∀ l : Latch, (s.latches &&& s.enables.setWidth 8).getLsbD l.index =
        (s.held l && s.reports l) := fun l => by
      rw [BitVec.getLsbD_and, BitVec.getLsbD_setWidth, decide_eq_true l.index_lt, Bool.true_and]
      rfl
    constructor
    · intro hne
      by_contra hnone
      refine hne (BitVec.eq_of_getLsbD_eq fun i hi => ?_)
      obtain ⟨l, rfl⟩ := Latch.exists_index hi
      rw [hbit l, BitVec.ofNat_eq_ofNat, BitVec.getLsbD_zero, Bool.eq_false_iff]
      exact fun hboth => hnone ⟨l, Bool.and_eq_true_iff.mp hboth⟩
    · rintro ⟨l, hheld, hreports⟩ hzero
      have hset := hbit l
      rw [hzero, hheld, hreports] at hset
      simp at hset
  rw [State.attnDriven, Bool.and_eq_true, Bool.not_eq_true', bne_iff_ne, hbits]

end

/-- Settles O23: a latch's event is its bit and then at most the offer of its FAULT, which touches TX_OVERFLOW alone. -/
theorem latchReports : Obligations.LatchReports := by
  unfold Obligations.LatchReports
  refine ⟨fun l s => ⟨fun hheld => if_pos hheld, fun hclear => ⟨State.held_raise l,
    fun k hk hover => State.held_raise_ne hk hover, fun hsilent => ?_, fun hreported hmute hroom => ?_⟩⟩,
    State.attnDriven_iff⟩
  · rw [State.raise_unreported hclear hsilent]
    refine ⟨rfl, ?_⟩
    simp only [State.held, State.latch, held_or_bit]
    rfl
  · rw [State.raise_reported hclear hreported,
      State.offer_of_room (s := s.latch l) hmute hroom]
    refine ⟨rfl, ⟨faultCue l (s.latches ||| l.bit), s.line.nextJoin, 0⟩, ?_, rfl, rfl⟩
    obtain ⟨-, -, htx, -⟩ := Line.contend_fields s.straps.station
      { s.line with
        tx := insertTx ⟨faultCue l (s.latches ||| l.bit), s.line.nextJoin, 0⟩ s.line.tx
        nextJoin := s.line.nextJoin + 1 }
    exact htx.symm ▸ (mem_insertTx _ _ _).mpr (.inl rfl)

end Sys2Proof.Machine

/-! Frames and the cues they carry: the receiver's tests, and the bytes of every cue read back (Sections 10.2 and 10.3). -/

namespace Sys2Proof.Machine

open Safety

/-! ## A frame taken apart (R167, R168) -/

/-- A byte of two stations holds the destination above the source. -/
theorem stations_extract (dst src : Station) :
    (dst ++ src).extractLsb' 4 4 = dst ∧ (dst ++ src).extractLsb' 0 4 = src := by
  constructor <;> refine BitVec.eq_of_getLsbD_eq fun i hi => ?_
  · rw [BitVec.getLsbD_extractLsb', BitVec.getLsbD_append]
    simp [hi]
  · rw [BitVec.getLsbD_extractLsb', BitVec.getLsbD_append]
    simp [hi]

/-- A byte is the two stations it holds. -/
theorem stations_append_extract (b : Byte) :
    (b.extractLsb' 4 4 : Station) ++ (b.extractLsb' 0 4 : Station) = b := by
  refine BitVec.eq_of_getLsbD_eq fun i hi => ?_
  rw [BitVec.getLsbD_append, BitVec.getLsbD_extractLsb', BitVec.getLsbD_extractLsb']
  by_cases hlow : i < 4
  · simp [hlow]
  · rw [if_neg hlow, Nat.add_sub_cancel' (Nat.not_lt.mp hlow), decide_eq_true (by omega), Bool.true_and]

/-- The parts of a whole cue are its own (Table 10-3). -/
theorem partsOf_cueBytes (kind : Byte) (dst src : Station) (payload : List Byte) :
    partsOf (cueBytes kind dst src payload) = some ⟨kind, dst ++ src, byteOf payload.length, payload,
      bytesOf16 (crc16 (cueBody kind dst src payload))⟩ := by
  simp [partsOf, cueBytes, cueBody, bytesOf16]

/-- A frame is the parts it was taken apart into. -/
theorem bytes_of_partsOf {bs : List Byte} {p : Parts} (h : partsOf bs = some p) :
    bs = [p.kind, p.address, p.length] ++ p.payload ++ p.check := by
  unfold partsOf at h
  split at h
  next k a n rest =>
    split at h
    next =>
      obtain rfl := Option.some.inj h
      simp
    next => cases h
  next => cases h

/-- A number up to 255 fills one byte. -/
theorem toNat_byteOf {n : Nat} (h : n < 256) : (byteOf n).toNat = n := by
  rw [byteOf, BitVec.toNat_ofNat, Nat.mod_eq_of_lt h]

section
variable {s : State} {f : Frame} {kind : Byte} {dst src : Station} {payload : List Byte}

/-- What the receiver makes of a cue of the format: the number of its source, its destination and its kind decide (R171). -/
theorem State.receive_cue (h : IsCue f kind dst src payload) :
    s.receive f =
      if src = s.straps.station then s.duplicateFound
      else if src = 15 then s
      else if dst ≠ s.straps.station ∧ dst ≠ 15 then s
      else (arrivalOf kind payload).elim s (fun a => s.takeArrival src dst a) := by
  obtain ⟨hframing, hbytes, hlength, hkind, hpermitted⟩ := h
  obtain ⟨hdst, hsrc⟩ := stations_extract dst src
  have hsound : Parts.sound ⟨kind, dst ++ src, byteOf payload.length, payload,
      bytesOf16 (crc16 (cueBody kind dst src payload))⟩ = true := by
    have hbyte := toNat_byteOf (n := payload.length) (by omega)
    simp only [Parts.sound, Bool.and_eq_true, decide_eq_true_eq, beq_iff_eq, bne_iff_ne]
    rw [hbyte]
    exact ⟨⟨⟨⟨hlength, rfl⟩, rfl⟩, hkind⟩, hpermitted⟩
  unfold State.receive
  rw [hframing, hbytes, partsOf_cueBytes]
  simp only [Bool.false_eq_true, if_false, hsound, Bool.not_true, Parts.src, Parts.dst, hdst, hsrc]
  cases arrivalOf kind payload <;> rfl

/-- A frame that is no cue of the format sets LINE_CHECK, and nothing else (R171). -/
theorem State.receive_of_not_cue (h : ¬ ∃ kind dst src payload, IsCue f kind dst src payload) :
    s.receive f = s.raise .lineCheck := by
  unfold State.receive
  split
  next => rfl
  next p hparts =>
    refine if_pos ?_
    by_contra hsound
    refine h ⟨p.kind, p.dst, p.src, p.payload, ?_⟩
    have hsound : p.sound = true := by simpa using hsound
    obtain ⟨hframing, hbytes⟩ : f.framingError = false ∧ partsOf f.bytes = some p := by
      cases hframing : f.framingError with
      | true => simp [hframing] at hparts
      | false => exact ⟨rfl, by simpa [hframing] using hparts⟩
    simp only [Parts.sound, Bool.and_eq_true, decide_eq_true_eq, beq_iff_eq, bne_iff_ne] at hsound
    obtain ⟨⟨⟨⟨hlength, hcount⟩, hcheck⟩, hkind⟩, hpermitted⟩ := hsound
    refine ⟨hframing, ?_, hcount ▸ hlength, hkind, hpermitted⟩
    have haddress : p.dst ++ p.src = p.address := stations_append_extract p.address
    have hbyte : byteOf p.payload.length = p.length := by
      rw [← hcount, byteOf, BitVec.ofNat_toNat, BitVec.setWidth_eq]
    rw [cueBytes, cueBody, haddress, hbyte, ← hcheck]
    exact bytes_of_partsOf hbytes

end

/-! ## Every cue read back (R169, R170) -/

/-- A pair's two numbers are read back from its three bytes (R170). -/
theorem pairBytes_read (a b : BitVec 12) :
    pairFirst ((a ++ b).extractLsb' 16 8) ((a ++ b).extractLsb' 8 8) = a ∧
    pairSecond ((a ++ b).extractLsb' 8 8) ((a ++ b).extractLsb' 0 8) = b := by
  constructor <;> refine BitVec.eq_of_getLsbD_eq fun i hi => ?_
  · simp only [pairFirst, BitVec.getLsbD_extractLsb', BitVec.getLsbD_append]
    interval_cases i <;> simp
  · simp only [pairSecond, BitVec.getLsbD_extractLsb', BitVec.getLsbD_append]
    interval_cases i <;> simp

/-- The values of LOAD DATA are read back from their bytes. -/
theorem wordsOf_bytes (vs : List U16) : wordsOf (vs.flatMap bytesOf16) = vs := by
  induction vs with
  | nil => simp [wordsOf]
  | cons v vs ih =>
    rw [List.flatMap_cons]
    change word16 _ _ :: wordsOf (vs.flatMap bytesOf16) = _
    rw [ih, word16_bytesOf16]

/-- Each request is read back from its kind and payload (Table 10-9). -/
theorem requestOf_requestPayload (r : Request) :
    requestOf (requestKind r).toNat (requestPayload r) = some r := by
  have hword (f : U16) : word16 (f.extractLsb' 8 8) (f.extractLsb' 0 8) = f := word16_bytesOf16 f
  cases r with
  | scenePurge | gradeNew | gradeVectorDelete | gradeDrop | gradeQuery | loadInstall | loadCancel
  | portRead | portWrite | undo | clearFaults => rfl
  | loadData vs => exact congrArg (fun vs => some (Request.loadData vs)) (wordsOf_bytes vs)
  | sceneMark f g t n => exact congrArg (fun f => some (Request.sceneMark f g t n)) (hword f)
  | sceneClear f => exact congrArg (fun f => some (Request.sceneClear f)) (hword f)
  | sceneSet f g t n k => exact congrArg (fun f => some (Request.sceneSet f g t n k)) (hword f)
  | sceneQuery m a => exact congrArg (fun a => some (Request.sceneQuery m a)) (hword a)
  | loadStart t n a m => exact congrArg (fun a => some (Request.loadStart t n a m)) (hword a)
  | cut r f m =>
    have hcut : requestOf (requestKind (.cut r f m)).toNat (requestPayload (.cut r f m)) =
        some (.cut (word16 (r.extractLsb' 8 8) (r.extractLsb' 0 8))
          (word16 (f.extractLsb' 8 8) (f.extractLsb' 0 8))
          (word16 (m.extractLsb' 8 8) (m.extractLsb' 0 8))) := rfl
    rw [hcut, hword, hword, hword]
  | gradePrimary n p =>
    obtain ⟨⟨rl, rg, rc⟩, ⟨gl, gg, gc⟩, ⟨bl, bg, bc⟩⟩ := p
    have hprimary (l g : U16) (c : Byte) : wirePrimary (l.extractLsb' 8 8) (l.extractLsb' 0 8)
        (g.extractLsb' 8 8) (g.extractLsb' 0 8) c = ⟨l, g, c⟩ := by
      rw [wirePrimary, hword, hword]
    exact congrArg (fun p => some (Request.gradePrimary n p))
      (congr (congr (congrArg RGB.mk (hprimary rl rg rc)) (hprimary gl gg gc)) (hprimary bl bg bc))
  | gradeVector n k v =>
    obtain ⟨⟨lr, lg, lb⟩, ⟨hr, hg, hb⟩, ⟨or, og, ob⟩, rect⟩ := v
    have hbox (rect : Option WireRect) :
        wireVector ((lr ++ hr).extractLsb' 16 8) ((lr ++ hr).extractLsb' 8 8)
          ((lr ++ hr).extractLsb' 0 8) ((lg ++ hg).extractLsb' 16 8) ((lg ++ hg).extractLsb' 8 8)
          ((lg ++ hg).extractLsb' 0 8) ((lb ++ hb).extractLsb' 16 8) ((lb ++ hb).extractLsb' 8 8)
          ((lb ++ hb).extractLsb' 0 8) (or.extractLsb' 8 8) (or.extractLsb' 0 8)
          (og.extractLsb' 8 8) (og.extractLsb' 0 8) (ob.extractLsb' 8 8) (ob.extractLsb' 0 8) rect =
        ⟨⟨lr, lg, lb⟩, ⟨hr, hg, hb⟩, ⟨or, og, ob⟩, rect⟩ := by
      simp only [wireVector, pairBytes_read, hword]
    cases rect with
    | none => exact congrArg (fun v => some (Request.gradeVector n k v)) (hbox none)
    | some q =>
      have hrect : wireRect ((q.x0 ++ q.x1).extractLsb' 16 8) ((q.x0 ++ q.x1).extractLsb' 8 8)
          ((q.x0 ++ q.x1).extractLsb' 0 8) ((q.y0 ++ q.y1).extractLsb' 16 8)
          ((q.y0 ++ q.y1).extractLsb' 8 8) ((q.y0 ++ q.y1).extractLsb' 0 8) = q := by
        simp only [wireRect, pairBytes_read]
      exact congrArg (fun v => some (Request.gradeVector n k v))
        ((congrArg _ (congrArg some hrect)).trans (hbox (some q)))

/-- A flags byte's fields are read back (Table 10-5). -/
theorem flagsByte_read (d : Direction) (v : Speed) (l k : BitVec 2) :
    directionOf ((flagsByte d v l k).extractLsb' 7 1) = d ∧
    speedOf ((flagsByte d v l k).extractLsb' 5 2) = v ∧
    (flagsByte d v l k).extractLsb' 3 2 = l ∧ (flagsByte d v l k).extractLsb' 1 2 = k := by
  cases d <;> cases v <;> revert l k <;> decide

/-- Each cue the engine acts on is read back from its kind and payload (Tables 10-5 and 10-9). -/
theorem arrivalOf_arrivalPayload (a : Arrival) :
    arrivalOf (arrivalKind a) (arrivalPayload a) = some a := by
  have hword (f : U16) : word16 (f.extractLsb' 8 8) (f.extractLsb' 0 8) = f := word16_bytesOf16 f
  cases a with
  | present | lineReset | hold | release => rfl
  | reel id len =>
    have hreel : arrivalOf (arrivalKind (.reel id len)) (arrivalPayload (.reel id len)) =
        some (.reel (word16 (id.extractLsb' 8 8) (id.extractLsb' 0 8))
          (word16 (len.extractLsb' 8 8) (len.extractLsb' 0 8))) := rfl
    rw [hreel, hword, hword]
  | frame n d v l k =>
    obtain ⟨hd, hv, hl, hk⟩ := flagsByte_read d v l k
    have hframe : arrivalOf (arrivalKind (.frame n d v l k)) (arrivalPayload (.frame n d v l k)) =
        some (.frame (word16 (n.extractLsb' 8 8) (n.extractLsb' 0 8))
          (directionOf ((flagsByte d v l k).extractLsb' 7 1))
          (speedOf ((flagsByte d v l k).extractLsb' 5 2))
          ((flagsByte d v l k).extractLsb' 3 2) ((flagsByte d v l k).extractLsb' 1 2)) := rfl
    rw [hframe, hword, hd, hv, hl, hk]
  | queued r =>
    have hkind : requestKind r ∉ arrivalKinds := by cases r <;> simp [requestKind, arrivalKinds]
    change arrivalOf (requestKind r) (requestPayload r) = _
    rw [arrivalOf_unknown _ hkind, requestOf_requestPayload]
    rfl

/-- The payload of a request that is well formed has a permitted length (R168). -/
theorem permittedLength_requestPayload {r : Request} (h : r.wellFormed = true) :
    (requestPayload r).length ≤ 24 ∧
    permittedLength (requestKind r) (requestPayload r).length = some true := by
  cases r with
  | loadData vs =>
    have hlength : (vs.flatMap bytesOf16).length = vs.length * 2 := by
      rw [List.length_flatMap, List.sum_eq_card_nsmul _ 2 (by simp [bytesOf16]), List.length_map,
        smul_eq_mul]
    simp only [Request.wellFormed, Bool.and_eq_true, decide_eq_true_eq] at h
    simp only [requestPayload, requestKind, permittedLength, BitVec.reduceToNat, hlength]
    refine ⟨by omega, congrArg some ?_⟩
    simp only [Bool.and_eq_true, decide_eq_true_eq, beq_iff_eq]
    omega
  | portWrite p d =>
    simp only [Request.wellFormed, Bool.and_eq_true, decide_eq_true_eq] at h
    simp only [requestPayload, requestKind, permittedLength, BitVec.reduceToNat, List.length_cons]
    refine ⟨by omega, congrArg some (Bool.and_eq_true_iff.mpr ⟨?_, ?_⟩)⟩
    · exact decide_eq_true (by omega)
    · exact decide_eq_true (by omega)
  | gradeVector n k v =>
    obtain ⟨lo, hi, offset, rect⟩ := v
    cases rect <;> exact ⟨Nat.le_of_ble_eq_true rfl, rfl⟩
  | _ => exact ⟨Nat.le_of_ble_eq_true rfl, rfl⟩

/-- The frame of a cue the engine acts on is one cue of the format (Table 10-3). -/
theorem isCue_frameOf {src dst : Station} {a : Arrival}
    (h : ∀ r, a = .queued r → r.wellFormed = true) :
    IsCue (frameOf src dst a) (arrivalKind a) dst src (arrivalPayload a) := by
  have hok : (arrivalPayload a).length ≤ 24 ∧ (arrivalKind a).toNat < 64 ∧
      permittedLength (arrivalKind a) (arrivalPayload a).length = some true := by
    cases a with
    | queued r =>
      obtain ⟨hlength, hpermitted⟩ := permittedLength_requestPayload (h r rfl)
      refine ⟨hlength, ?_, hpermitted⟩
      cases r <;> exact Nat.le_of_ble_eq_true rfl
    | _ => exact ⟨Nat.le_of_ble_eq_true rfl, Nat.le_of_ble_eq_true rfl, rfl⟩
  obtain ⟨hlength, hkind, hpermitted⟩ := hok
  exact ⟨rfl, rfl, hlength, hkind, by rw [hpermitted]; exact nofun⟩

/-- A kind not in Table 10-4, and a kind the engine only sends, asks nothing of it (R171 test 5). -/
theorem arrivalOf_ignored {kind : Byte} {payload : List Byte}
    (h : permittedLength kind payload.length = none ∨ kind = 0x2F ∨ kind = 0x0B ∨ kind = 0x31) :
    arrivalOf kind payload = none := by
  have hnone : kind ∉ arrivalKinds ∧ kind ∉ requestKinds := by
    rcases h with h | rfl | rfl | rfl
    · constructor <;> intro hmem <;>
        simp only [arrivalKinds, requestKinds, List.mem_cons, List.not_mem_nil, or_false] at hmem <;>
        rcases hmem with rfl | rfl | rfl | rfl | rfl | rfl | rfl | rfl | rfl | rfl | rfl | rfl |
          rfl | rfl | rfl | rfl | rfl | rfl | rfl | rfl <;> cases h
    all_goals decide
  rw [arrivalOf_unknown payload hnone.1, requestOf_unknown payload hnone.2]
  rfl

/-! ## The receiver's tests (O24, O25) -/

section
variable {s t : State} {f : Frame}

/-- A guard that completes after a frame that is not the own cue: the frame is received, then the engine contends (R164). -/
theorem exec_guardComplete_some (hrunning : s.resetHeld = false) (hfree : s.line.inFlight = none)
    (hown : f.framingError = true ∨ s.line.sentWhole ≠ some f.bytes) :
    exec (.guardComplete (some f)) s =
      .next ((s.atGuard.receive f).contendAtGuard s.line.tx.head?) := by
  have hnot : ¬ s.isOwnCue f = true := by
    rw [State.isOwnCue_iff]
    rintro ⟨hframing, hwhole⟩
    rcases hown with h | h
    · rw [hframing] at h
      cases h
    · exact h hwhole
  have hexec : exec (.guardComplete (some f)) s = .next (s.guardComplete (some f)) :=
    whenRunning_running s _ hrunning
  rw [hexec, State.guardComplete_of_free _ hfree, State.heardAtGuard]
  exact congrArg _ (congrArg _ (if_neg hnot))

/-- A guard that completes after nothing. -/
theorem exec_guardComplete_none (hrunning : s.resetHeld = false) (hfree : s.line.inFlight = none) :
    exec (.guardComplete none) s = .next (s.atGuard.contendAtGuard s.line.tx.head?) := by
  have hexec : exec (.guardComplete none) s = .next (s.guardComplete none) :=
    whenRunning_running s _ hrunning
  rw [hexec, State.guardComplete_of_free _ hfree]
  rfl

/-- Line work taken back leaves the state as it was. -/
theorem State.LineWork.undo (h : s.LineWork t) :
    { t with line := s.line, latches := s.latches, freeCount := s.freeCount } = s := by
  unfold State.LineWork at h
  rw [h]

/-- Contention touches neither queue nor mute, and a muted transmitter contends for nothing (R165, R179). -/
theorem State.contendAtGuard_line (e : Option TxEntry) :
    (s.contendAtGuard e).line.tx = s.line.tx ∧ (s.contendAtGuard e).line.mute = s.line.mute ∧
    (s.line.mute = true → (s.contendAtGuard e).line.deferral = none) := by
  have hnone : s.line.mute = true →
      (Line.contend s.straps.station { s.line with idle := true, deferral := none }).deferral =
        none := by
    intro hmute
    rw [(Line.contend_deferral _ { s.line with idle := true, deferral := none }).2 nofun]
    exact if_neg (by simp [hmute])
  unfold State.contendAtGuard
  dsimp only
  split
  next =>
    split
    next hother =>
      have hsome : s.line.mute = false := by
        by_contra hmute
        simp [hnone (by simpa using hmute)] at hother
      split <;> simp [hsome]
    next => exact ⟨by simp, by simp, hnone⟩
  next => exact ⟨by simp, by simp, hnone⟩

/-- Hearing the own number empties the queue (R179). -/
theorem State.duplicateFound_tx : s.duplicateFound.line.tx = [] ∧
    s.duplicateFound.held .address = true := by
  have hraised : ∀ x : State, (x.muted.raise .address).line.tx = [] := by
    intro x
    unfold State.raise
    split
    next => rfl
    next =>
      dsimp only
      split
      next => rw [State.offer_of_mute (s := x.muted.latch .address) rfl]; rfl
      next => rfl
  unfold State.duplicateFound
  dsimp only
  split
  next =>
    split
    next => exact ⟨rfl, State.held_raise (s := { s with freeCount := s.freeCount + 1 }) .address⟩
    next => exact ⟨hraised _, State.held_raise _⟩
  next => exact ⟨hraised _, State.held_raise _⟩

/-- A FIFO with room takes the cue as its last (R173). -/
theorem State.enqueueRx_of_room {c : Cue} (h : s.line.fifo.length < 4) :
    s.enqueueRx c = { s with line := { s.line with fifo := s.line.fifo ++ [c] } } :=
  if_neg (Nat.not_le.mpr h)

/-- A full FIFO takes no cue, and RX_OVERRUN is set (R173). -/
theorem State.enqueueRx_of_full {c : Cue} (h : 4 ≤ s.line.fifo.length) :
    s.enqueueRx c = s.raise .rxOverrun := if_pos h

end

/-- Settles O25: a well-formed frame is taken apart into the fields that were put in. -/
theorem frameCarriesItsCue : Obligations.FrameCarriesItsCue := by
  unfold Obligations.FrameCarriesItsCue
  intro src dst a s hrunning hfree hwhole hown hall hdst hwell
  have hnot : ¬(dst ≠ s.straps.station ∧ dst ≠ 15) := fun h => hdst.elim h.1 h.2
  rw [exec_guardComplete_some hrunning hfree (.inr hwhole),
    State.receive_cue (isCue_frameOf hwell), if_neg (by exact hown), if_neg hall,
    if_neg (by exact hnot), arrivalOf_arrivalPayload]
  rfl

/-- Settles O24: the tests in their order, each on the parts of the frame; contention then touches the deferral alone. -/
theorem receiverTests : Obligations.ReceiverTests := by
  unfold Obligations.ReceiverTests
  refine ⟨fun f s hrunning hfree hother => ⟨fun hnone => ?noCue, fun kind dst src payload hcue =>
    ⟨fun hown => ?own, fun hsrc hignored => ?ignored⟩⟩,
    fun src dst r s hrunning hfree hwhole hown hall hdst hwell => ?queued⟩
  case noCue =>
    rw [exec_guardComplete_some hrunning hfree hother, State.receive_of_not_cue hnone]
    obtain ⟨hlatches, -, -, hfifo⟩ :=
      State.contendAtGuard_fields (s := s.atGuard.raise .lineCheck) s.line.tx.head?
    obtain ⟨-, hmute, -⟩ :=
      State.contendAtGuard_line (s := s.atGuard.raise .lineCheck) s.line.tx.head?
    obtain ⟨hfifo', -, -, -, -, hmute'⟩ := State.lineKept_raise (s := s.atGuard) .lineCheck
    have hwork : s.LineWork ((s.atGuard.raise .lineCheck).contendAtGuard s.line.tx.head?) :=
      (State.LineWork.trans (u := s.atGuard.raise .lineCheck) (t := s.atGuard) rfl
        (State.lineWork_raise _)).trans (State.lineWork_contendAtGuard _)
    refine ⟨_, rfl, ?_, hfifo.trans hfifo', hmute.trans hmute', hwork.undo⟩
    rw [State.held, hlatches]
    exact State.held_raise _
  case own =>
    rw [exec_guardComplete_some hrunning hfree hother, State.receive_cue hcue,
      if_pos (by exact hown)]
    obtain ⟨hlatches, -, -, hfifo⟩ :=
      State.contendAtGuard_fields (s := s.atGuard.duplicateFound) s.line.tx.head?
    obtain ⟨htx, hmute, hdeferral⟩ :=
      State.contendAtGuard_line (s := s.atGuard.duplicateFound) s.line.tx.head?
    obtain ⟨hfifo', -, -, -, hmuted⟩ := State.duplicateFound_line (s := s.atGuard)
    obtain ⟨hempty, haddress⟩ := State.duplicateFound_tx (s := s.atGuard)
    have hwork : s.LineWork (s.atGuard.duplicateFound.contendAtGuard s.line.tx.head?) :=
      (State.LineWork.trans (u := s.atGuard.duplicateFound) (t := s.atGuard) rfl
        State.lineWork_duplicateFound).trans (State.lineWork_contendAtGuard _)
    refine ⟨_, rfl, ?_, hmute.trans hmuted, htx.trans hempty, hdeferral hmuted, hfifo.trans hfifo',
      hwork.undo⟩
    rw [State.held, hlatches]
    exact haddress
  case ignored =>
    rw [exec_guardComplete_some hrunning hfree hother, exec_guardComplete_none hrunning hfree,
      State.receive_cue hcue, if_neg (by exact hsrc)]
    rcases hignored with h15 | hdst | hkind
    · rw [if_pos h15]
    · rw [if_pos (show dst ≠ s.atGuard.straps.station ∧ dst ≠ 15 from hdst), ite_self]
    · rw [arrivalOf_ignored hkind, Option.elim_none, ite_self, ite_self]
  case queued =>
    have hcue := frameCarriesItsCue src dst (.queued r) s hrunning hfree hwhole hown hall hdst
      (by rintro _ ⟨⟩; exact hwell)
    obtain ⟨hlatches, -, -, hfifo⟩ :=
      State.contendAtGuard_fields (s := s.atGuard.enqueueRx ⟨src, dst, r⟩) s.line.tx.head?
    have hwork : s.LineWork
        ((s.atGuard.enqueueRx ⟨src, dst, r⟩).contendAtGuard s.line.tx.head?) :=
      (State.LineWork.trans (u := s.atGuard.enqueueRx ⟨src, dst, r⟩) (t := s.atGuard) rfl
        (State.lineWork_enqueueRx _)).trans (State.lineWork_contendAtGuard _)
    refine ⟨_, hcue, hfifo.trans ?_, fun hfull => ?_, fun hroom => hlatches.trans ?_, hwork.undo⟩
    · by_cases hroom : s.line.fifo.length < 4
      · rw [if_pos hroom, State.enqueueRx_of_room (s := s.atGuard) hroom]
        rfl
      · rw [if_neg hroom, State.enqueueRx_of_full (s := s.atGuard) (Nat.not_lt.mp hroom)]
        exact (State.lineKept_raise (s := s.atGuard) .rxOverrun).1
    · refine (congrArg (fun w : BitVec 8 => w.getLsbD Latch.rxOverrun.index) hlatches).trans ?_
      rw [State.enqueueRx_of_full (s := s.atGuard) hfull]
      exact State.held_raise _
    · rw [State.enqueueRx_of_room (s := s.atGuard) hroom]
      rfl

/-! ## PRESENT (O26) -/

/-- The roster after one entry is set (R183). -/
theorem role_set {s t : State} {a : Station} {r : Role} (h : t.roster = s.roster.set a.toNat (some r)) :
    (∀ b, b ≠ a → t.role b = s.role b) ∧
    (a.toNat < s.roster.length → t.role a = some r) := by
  unfold State.role
  rw [h]
  refine ⟨fun b hb => ?_, fun hlt => ?_⟩
  · have hne : a.toNat ≠ b.toNat := fun heq => hb (BitVec.eq_of_toNat_eq heq.symm)
    rw [List.getD_eq_getElem?_getD, List.getElem?_set_ne hne, List.getD_eq_getElem?_getD]
  · rw [List.getD_eq_getElem?_getD, List.getElem?_set_self hlt]
    rfl

/-- What an offer does to line and latches reads straps, enables, latches and line alone (R178). -/
theorem State.offer_congr {s t : State} (c : TxCue) (hs : t.straps = s.straps)
    (he : t.enables = s.enables) (hl : t.line = s.line) (hf : t.latches = s.latches) :
    (t.offer c).line = (s.offer c).line ∧ (t.offer c).latches = (s.offer c).latches := by
  unfold State.offer State.overflow State.held State.reports State.latch
  simp only [hs, he, hl, hf]
  repeat' split
  all_goals simp_all

/-- An ask draws nothing while a PRESENT is queued (R184). -/
theorem State.answerAsk_of_queued {s : State} (h : s.line.presentQueued = true) : s.answerAsk = s :=
  if_pos h

/-- An ask draws the own PRESENT while none is queued (R184). -/
theorem State.answerAsk_of_none {s : State} (h : s.line.presentQueued = false) :
    s.answerAsk = s.offer (presentCue false) := if_neg (Bool.eq_false_iff.mp h)

/-- Settles O26: the roster is set at the source alone, and an ask draws the own PRESENT. -/
theorem presentSetsRole : Obligations.PresentSetsRole := by
  unfold Obligations.PresentSetsRole
  refine ⟨fun src role ask s hrunning hlength hown hall => ?_, fun src role ask s hignored => ?_,
    fun s n => ?_⟩
  · have hexec : exec (.present src role ask) s = .next (s.takePresent src role ask) :=
      whenRunning_running s _ hrunning
    have hlt : src.toNat < s.roster.length := by
      have hne : src.toNat ≠ 15 := fun heq => hall (BitVec.eq_of_toNat_eq heq)
      have hsrc := src.isLt
      omega
    have htaken : s.takePresent src role ask =
        if ask = 0 then { s with roster := s.roster.set src.toNat (some (Role.ofCode role)) }
        else State.answerAsk
          { s with roster := s.roster.set src.toNat (some (Role.ofCode role)) } :=
      if_neg (not_or.mpr ⟨hown, hall⟩)
    have hroster : (s.takePresent src role ask).roster =
        s.roster.set src.toNat (some (Role.ofCode role)) := by
      rw [htaken]
      unfold State.answerAsk
      repeat' split
      all_goals simp
    obtain ⟨hothers, hself⟩ := role_set hroster
    refine ⟨_, hexec, hothers, hself hlt, fun hsilent => ?_, fun hask hnone => ?_⟩
    · rw [htaken]
      split
      next => rfl
      next hask =>
        rw [State.answerAsk_of_queued (s := { s with
          roster := s.roster.set src.toNat (some (Role.ofCode role)) }) (hsilent.resolve_left hask)]
    · obtain ⟨hline, hlatches⟩ := State.offer_congr (presentCue false)
        (t := { s with roster := s.roster.set src.toNat (some (Role.ofCode role)) }) (s := s)
        rfl rfl rfl rfl
      rw [htaken, if_neg hask, State.answerAsk_of_none (s := { s with
        roster := s.roster.set src.toNat (some (Role.ofCode role)) }) hnone, State.offer_eq, hline,
        hlatches]
      exact (s.offer_eq (presentCue false)).symm
  · have hignored' : s.takePresent src role ask = s := if_pos hignored
    cases hheld : s.resetHeld with
    | false =>
      exact (whenRunning_running s (State.takePresent src role ask) hheld).trans
        (congrArg _ hignored')
    | true => exact whenRunning_held s (State.takePresent src role ask) hheld
  · unfold State.authority
    rw [List.findIdx?_eq_some_iff_getElem]
    constructor
    · rintro ⟨hlt, hfound, hbefore⟩
      refine ⟨by rw [List.getElem?_eq_getElem hlt, beq_iff_eq.mp hfound], fun m hm hmth => ?_⟩
      obtain ⟨hmlt, hmeq⟩ := List.getElem?_eq_some_iff.mp hmth
      exact hbefore m hm (beq_iff_eq.mpr hmeq)
    · rintro ⟨hnth, hbefore⟩
      obtain ⟨hlt, heq⟩ := List.getElem?_eq_some_iff.mp hnth
      refine ⟨hlt, beq_iff_eq.mpr heq, fun m hm hmth => hbefore m hm ?_⟩
      rw [List.getElem?_eq_getElem (hm.trans hlt), beq_iff_eq.mp hmth]

end Sys2Proof.Machine

/-! The grading pipeline in the formulas of its rules (Chapter 1). -/

namespace Sys2Proof.Machine

open Safety

/-! ## Stages 1 to 3 (O30) -/

/-- The clamp of every stage as a maximum and a minimum (R2). -/
theorem clamp12_eq (x : Int) : clamp12 x = max 0 (min 4095 x) := clampInt_eq (by decide) x

/-- What every stage but the last gives lies in 0..4095. -/
theorem clamp12_mem (x : Int) : 0 ≤ clamp12 x ∧ clamp12 x ≤ 4095 := by
  rw [clamp12_eq]
  omega

/-- The floor of an exact quotient is the integer division by a positive number (R2). -/
theorem floor_quotient (a : Int) (n : Nat) : ⌊(a : ℚ) / n⌋ = a / n := Rat.floor_intCast_div_natCast a n

/-- A zone number is the floor of its exact quotient (R7). -/
theorem floor_zone (x n : Nat) : ⌊(x * 64 : ℚ) / n⌋.toNat = x * 64 / n := by
  have h := floor_quotient (x * 64 : Nat) n
  push_cast at h
  rw [h]
  exact_mod_cast rfl

/-- Settles O30: each stage divides by a positive number, so that its division is the floor. -/
theorem stageFormulas : Obligations.StageFormulas := by
  unfold Obligations.StageFormulas
  refine ⟨fun g h x => ?_, fun row a => ?_, fun p m => ?_, fun sn std x y p => ⟨_, rfl, ?_⟩⟩
  · rw [shade, clamp12_eq]
    exact congrArg (fun z => max 0 (min 4095 z)) (floor_quotient _ 1048576).symm
  · rw [maskRow, clamp12_eq]
    exact congrArg (fun z => max 0 (min 4095 z)) (floor_quotient _ 256).symm
  · rw [primaryStage, clamp12_eq]
    exact congrArg (fun z => max 0 (min 4095 (z + p.lift))) (floor_quotient _ 1024).symm
  · have hx : ⌊(x * 64 : ℚ) / 720⌋.toNat = zoneX x := floor_zone x 720
    have hy : ⌊(y * 64 : ℚ) / (if std = .s525 then 486 else 576)⌋.toNat = zoneY std y := by
      cases std
      · exact floor_zone y 486
      · exact floor_zone y 576
    rw [hx, hy]
    unfold masked film
    cases sn.filmMode <;> rfl

/-! ## Stages 4 and 5 (O31) -/

/-- A code is sixteen times its quotient and its rest. -/
theorem curveStage_nat (t : List Nat) (p : Nat) :
    curveStage t p = clamp12 ((t.getD (p / 16) 0 : Int) +
      (((t.getD (p / 16 + 1) 0 : Int) - (t.getD (p / 16) 0 : Int)) * (p % 16 : Nat) + 8) / 16) := by
  have hquot : ((p : Int) / 16).toNat = p / 16 := by omega
  have hrest : (p : Int) - 16 * (p / 16 : Nat) = (p % 16 : Nat) := by omega
  simp only [curveStage, curvePoint, hquot, hrest]

/-- Linear interpolation stays between its two ends (R14). -/
theorem interpolation_between {a b : Int} {f : Nat} (h : f < 16) :
    min a b ≤ a + ((b - a) * f + 8) / 16 ∧ a + ((b - a) * f + 8) / 16 ≤ max a b := by
  interval_cases f <;> omega

/-- The vector matches the pixel on colour and position (R16, R17). -/
def Vec.hits (v : Vec) (x y : Nat) (q : RGB Int) : Bool :=
  v.matchesColour q && v.matchesPosition x y

section
variable {vs : List Vec} {v : Vec} {x y : Nat} {q : RGB Int}

/-- A vector matches a pixel in its box and, when it has one, in its rectangle (R16, R17). -/
theorem Vec.hits_iff : v.hits x y q = true ↔
    ((v.lo.r : Int) ≤ q.r ∧ q.r ≤ v.hi.r ∧ (v.lo.g : Int) ≤ q.g ∧ q.g ≤ v.hi.g ∧
      (v.lo.b : Int) ≤ q.b ∧ q.b ≤ v.hi.b) ∧
    ∀ k ∈ v.rect, k.x0 ≤ x ∧ x ≤ k.x1 ∧ k.y0 ≤ y ∧ y ≤ k.y1 := by
  have hposition : v.matchesPosition x y = true ↔
      ∀ k ∈ v.rect, k.x0 ≤ x ∧ x ≤ k.x1 ∧ k.y0 ≤ y ∧ y ≤ k.y1 := by
    unfold Vec.matchesPosition
    cases v.rect <;> simp [and_assoc]
  rw [Vec.hits, Bool.and_eq_true, hposition]
  simp [Vec.matchesColour, within, and_assoc]

/-- The first vector that matches gives its offsets (R18). -/
theorem secondaryStage_hit {before after : List Vec} (hvs : vs = before ++ v :: after)
    (hhit : v.hits x y q = true) (hbefore : ∀ u ∈ before, ¬ u.hits x y q = true) :
    secondaryStage vs x y q = ⟨max 0 (min 4095 (q.r + v.offset.r)),
      max 0 (min 4095 (q.g + v.offset.g)), max 0 (min 4095 (q.b + v.offset.b))⟩ := by
  have hfind : vs.find? (fun v => v.matchesColour q && v.matchesPosition x y) = some v := by
    have hnone : before.find? (fun v => v.matchesColour q && v.matchesPosition x y) = none :=
      List.find?_eq_none.mpr hbefore
    rw [hvs, List.find?_append, hnone, Option.none_or]
    exact List.find?_cons_of_pos hhit
  simp only [secondaryStage, hfind, RGB.zip, clamp12_eq]

/-- Where no vector matches the pixel passes (R18). -/
theorem secondaryStage_none (h : ∀ v ∈ vs, ¬ v.hits x y q = true) :
    secondaryStage vs x y q = q := by
  have hfind : vs.find? (fun v => v.matchesColour q && v.matchesPosition x y) = none :=
    List.find?_eq_none.mpr h
  simp only [secondaryStage, hfind]

end

/-- Settles O31: the curve between its points, and the first vector that matches. -/
theorem laneStages : Obligations.LaneStages := by
  unfold Obligations.LaneStages
  refine ⟨fun t p hp hlength hpoints => ?between, fun t p hp hidentity => ?identity,
    fun t p hp => ?formula, fun curves g x y m => rfl, fun vs x y q => ?vectors⟩
  case between =>
    have hrest : p % 16 < 16 := Nat.mod_lt _ (by decide)
    obtain ⟨hlow, hhigh⟩ := interpolation_between (a := (t.getD (p / 16) 0 : Int))
      (b := (t.getD (p / 16 + 1) 0 : Int)) hrest
    rw [curveStage_nat, clamp12_eq]
    refine ⟨by omega, by omega, fun hzero => ?_⟩
    rw [hzero]
    omega
  case identity =>
    have hi : p / 16 + 1 ≤ 256 := by omega
    rw [curveStage_nat, hidentity _ (by omega), hidentity _ hi, clamp12_eq]
    push_cast
    omega
  case formula =>
    rw [curveStage_nat, clamp12_eq]
    exact congrArg (fun z => max 0 (min 4095 ((t.getD (p / 16) 0 : Int) + z)))
      (floor_quotient _ 16).symm
  case vectors =>
    exact ⟨fun v => v.hits x y q = true, fun v => v.hits_iff, fun before v after hvs hhit hbefore =>
      secondaryStage_hit hvs hhit hbefore, secondaryStage_none⟩

/-! ## The output codes (O33) -/

/-- The lowest value that is coded `64 + k` (R22). -/
def firstOfCode (k : Nat) : Nat := (4095 * k - 1172) / 876

/-- The code of a value that is not negative. -/
theorem outputCode_nat (v : Nat) : outputCode v = 64 + (v * 876 + 2047) / 4095 := by
  unfold outputCode
  omega

/-- Settles O33: code 64 + k begins at the value that 4095 k, less the rounding, divided by 876 gives. -/
theorem outputCoding : Obligations.OutputCoding := by
  unfold Obligations.OutputCoding
  refine ⟨fun v hv => ?_, fun v w hvw hw => ?_, fun code hlow hhigh => ?_⟩
  · rw [outputCode_nat]
    omega
  · rw [outputCode_nat, outputCode_nat]
    omega
  · obtain ⟨k, rfl⟩ := Nat.exists_eq_add_of_le hlow
    refine ⟨firstOfCode k, if k = 876 then 3 else firstOfCode (k + 1) - firstOfCode k, ?_,
      fun v hv => ?_, ?_⟩ <;> unfold firstOfCode
    · split <;> omega
    · rw [outputCode_nat]
      split <;> omega
    · split <;> split <;> omega

/-! ## The flat picture (O34) -/

/-- An identity curve passes every value of 0..4095 (R27). -/
theorem curveStage_identity {p : Nat} (h : p ≤ 4095) : curveStage identityCurve p = p := by
  have hi : p / 16 + 1 ≤ 256 := by omega
  rw [curveStage_nat, identityCurve_getD (by omega), identityCurve_getD (by omega), clamp12_eq]
  push_cast
  omega

/-- A table of one value holds it at every place, the default one included. -/
theorem getD_replicate_self {α : Type} (n i : Nat) (a : α) : (List.replicate n a).getD i a = a := by
  rw [List.getD_eq_getElem?_getD, List.getElem?_replicate]
  split <;> rfl

/-- A gain of 1024 in both directions passes a value of 0..4095 (R8). -/
theorem shade_unity {v : Nat} (h : v ≤ 4095) : shade 1024 1024 v = v := by
  rw [shade, clamp12_eq]
  push_cast
  omega

/-- The flat primary passes a value of 0..4095 (R13). -/
theorem primaryStage_flat {v : Nat} (h : v ≤ 4095) : primaryStage ⟨0, 1024, 0⟩ v = v := by
  rw [primaryStage, clamp12_eq]
  push_cast
  omega

/-- A lane with the flat grade and an identity curve passes a pixel (R26). -/
theorem lane_flat {x y r g b : Nat} (hr : r ≤ 4095) (hg : g ≤ 4095) (hb : b ≤ 4095) :
    lane (List.replicate 16 identityCurve) Grade.flat x y ⟨r, g, b⟩ = ⟨r, g, b⟩ := by
  have hcurve : (List.replicate 16 identityCurve).getD 0 [] = identityCurve := rfl
  rw [lane, Grade.flat, secondaryStage_none (fun v hv => absurd hv List.not_mem_nil)]
  simp only [RGB.all, RGB.zip, hcurve, primaryStage_flat, curveStage_identity, hr, hg, hb]

/-- The identity matrix passes a pixel (R10). -/
theorem maskRow_identity {r g b : Nat} (hr : r ≤ 4095) (hg : g ≤ 4095) (hb : b ≤ 4095) :
    Matrix.identity.map (fun row => maskRow row ⟨r, g, b⟩) = ⟨r, g, b⟩ := by
  simp only [Matrix.identity, RGB.map, maskRow, clamp12_eq]
  refine congr (congr (congrArg RGB.mk ?_) ?_) ?_ <;> omega

/-- Settles O34: each stage of a power-on passes the pixel. -/
theorem flatPicture : Obligations.FlatPicture := by
  unfold Obligations.FlatPicture
  intro straps x y r g b _ _
  obtain ⟨l, w, heq⟩ := State.powerOn_cases straps
  have hr : r.toNat ≤ 4095 := by omega
  have hg : g.toNat ≤ 4095 := by omega
  have hb : b.toNat ≤ 4095 := by omega
  have hmasked : masked (State.cold straps).snapshot straps.standard x y
      ⟨r.toNat, g.toNat, b.toNat⟩ = ⟨r.toNat, g.toNat, b.toNat⟩ := by
    simp only [masked, State.cold, getD_replicate_self, film, RGB.map, shade_unity, hr, hg, hb]
    exact maskRow_identity hr hg hb
  rw [heq]
  unfold pixelCodes
  rw [hmasked, graded_of_idle rfl]
  change (lane (List.replicate 16 identityCurve) Grade.flat x y _).map outputCode = _
  rw [lane_flat hr hg hb]
  simp only [RGB.map, outputCode_nat]

end Sys2Proof.Machine

/-! Pixel clocks: the position of a pixel, the output's latency, and the samples of the histogram (Sections 8.1, 9.1, 9.2). -/

namespace Sys2Proof.Machine

open Safety

section
variable {s t : State}

/-- A command that is a pixel clock counts one clock into the line and keeps straps and line count (R152). -/
theorem exec_isPixelClock {c : Instr} (h : IsPixelClock c) (hrunning : s.resetHeld = false) :
    ∃ (p : RGB Int) (l f b : Bool), exec c s = .next (s.pixelClock p l f b) := by
  obtain ⟨red, green, blue, l, f, b, rfl⟩ := h
  exact ⟨_, l, f, b, whenRunning_running s _ hrunning⟩

/-- Pixel clocks run one after the other, each counting into the line. -/
theorem runAll_pixelClocks {cs : List Instr} (hcs : ∀ c ∈ cs, IsPixelClock c)
    (hrunning : s.resetHeld = false) :
    ∃ t, runAll cs s = some t ∧ t.straps = s.straps ∧
      t.raster.lineCount = s.raster.lineCount ∧
      t.video.clocksIntoLine = s.video.clocksIntoLine + cs.length := by
  induction cs generalizing s with
  | nil => exact ⟨s, rfl, rfl, rfl, rfl⟩
  | cons c cs ih =>
    obtain ⟨hc, hrest⟩ := List.forall_mem_cons.mp hcs
    obtain ⟨p, l, f, b, hexec⟩ := exec_isPixelClock (s := s) hc hrunning
    obtain ⟨t, hrun, hstraps, hline, hclocks⟩ := ih (s := s.pixelClock p l f b) hrest (by simpa using hrunning)
    refine ⟨t, ?_, by simpa using hstraps, hline, ?_⟩
    · rw [runAll, hexec]
      exact hrun
    · rw [hclocks, List.length_cons, Nat.add_comm cs.length, ← Nat.add_assoc]
      rfl

/-- The pixel number of a clock (R152). -/
theorem pixelNumber_eq_some {n x : Nat} : pixelNumber n = some x ↔ n = x + 140 ∧ x < 720 := by
  unfold pixelNumber
  split
  next h =>
    rw [Option.some_inj]
    omega
  next h =>
    refine iff_of_false nofun ?_
    omega

/-- The field line of a line number (R152). -/
theorem fieldLine_eq_some {std : Standard} {n l : Nat} : fieldLine std n = some l ↔
    (std = .s525 ∧ n = l + 20 ∧ l ≤ 242) ∨ (std = .s625 ∧ n = l + 23 ∧ l ≤ 287) := by
  unfold fieldLine
  split
  next h =>
    rw [Option.some_inj]
    cases std <;> simp only [Config.firstLine, Config.lastLine] at h ⊢ <;> simp <;> omega
  next h =>
    refine iff_of_false nofun ?_
    cases std <;> simp only [Config.firstLine, Config.lastLine] at h <;> simp <;> omega

/-- Where the pixel now sampled lies is its pixel number and its field line (R152). -/
theorem State.activePixel_eq_some {x l : Nat} : s.activePixel = some (x, l) ↔
    pixelNumber s.video.clocksIntoLine = some x ∧
      fieldLine s.straps.standard s.raster.lineCount = some l := by
  unfold State.activePixel
  cases pixelNumber s.video.clocksIntoLine <;>
    cases fieldLine s.straps.standard s.raster.lineCount <;> simp

end

/-- Settles O27: the line sync starts the clock count over, and each clock raises it. -/
theorem pixelPosition : Obligations.PixelPosition := by
  unfold Obligations.PixelPosition
  intro cs s hrunning hcs
  have hsync : exec .lineSync s = .next { s with
      raster := { s.raster with lineCount := s.raster.lineCount + 1 }
      video := { s.video with clocksIntoLine := 0 } } :=
    whenRunning_running s (fun s => { s with
      raster := { s.raster with lineCount := s.raster.lineCount + 1 }
      video := { s.video with clocksIntoLine := 0 } }) hrunning
  obtain ⟨t, hrun, hstraps, hline, hclocks⟩ := runAll_pixelClocks (s := { s with
    raster := { s.raster with lineCount := s.raster.lineCount + 1 }
    video := { s.video with clocksIntoLine := 0 } }) hcs hrunning
  refine ⟨hsync, t, ?_, hline, hclocks.trans (Nat.zero_add _), fun x l => ?_⟩
  · rw [runAll, hsync]
    exact hrun
  · rw [State.activePixel_eq_some, hclocks, hline, hstraps, pixelNumber_eq_some,
      fieldLine_eq_some, Nat.zero_add, and_assoc]

/-! ## The output's latency (O28) -/

/-- The pixel `q` that stands behind `ahead` in the delay is presented once they have been (R154). -/
theorem runAll_presents {cs : List Instr} {s : State} {q : OutPixel} {ahead behind : List OutPixel}
    (hcs : ∀ c ∈ cs, IsPixelClock c) (hrunning : s.resetHeld = false)
    (hdelay : s.video.delay = ahead ++ q :: behind) (hlength : cs.length = ahead.length + 1) :
    ∃ t, runAll cs s = some t ∧ t.video.out = q := by
  induction cs generalizing s ahead behind with
  | nil => cases hlength
  | cons c cs ih =>
    obtain ⟨hc, hrest⟩ := List.forall_mem_cons.mp hcs
    obtain ⟨p, l, f, b, hexec⟩ := exec_isPixelClock (s := s) hc hrunning
    have hnext : runAll (c :: cs) s = runAll cs (s.pixelClock p l f b) := by rw [runAll, hexec]
    rw [hnext]
    cases ahead with
    | nil =>
      obtain rfl := List.length_eq_zero_iff.mp (Nat.succ.inj hlength)
      refine ⟨_, rfl, ?_⟩
      simp [Video.present, hdelay]
    | cons a ahead =>
      refine ih (behind := behind ++ [⟨State.codeNow { s with video := { s.video with
        clocksIntoLine := s.video.clocksIntoLine + 1 } } p, l, f, b⟩]) hrest
        (by simpa using hrunning) ?_ (Nat.succ.inj hlength)
      simp [Video.present, hdelay]

/-- The codes of the pixel now sampled, its place written out (R22, R23, R25). -/
theorem State.codeNow_eq (s : State) (p : RGB Int) :
    State.codeNow { s with video := { s.video with clocksIntoLine := s.video.clocksIntoLine + 1 } } p =
      codesAt s (s.video.clocksIntoLine + 1) p := by
  unfold State.codeNow State.activePixel codesAt
  dsimp only
  cases pixelNumber (s.video.clocksIntoLine + 1) <;>
    cases fieldLine s.straps.standard s.raster.lineCount <;> rfl

/-- Settles O28: a pixel joins the delay as its last, behind 95 others. -/
theorem outputLatency : Obligations.OutputLatency := by
  unfold Obligations.OutputLatency
  intro red green blue lineSync fieldSync parity cs s hrunning hdelay hlength hcs
  have hexec : exec (.pixelClock red green blue lineSync fieldSync parity) s = .next
      (s.pixelClock ⟨red.toNat, green.toNat, blue.toNat⟩ lineSync fieldSync parity) :=
    whenRunning_running s _ hrunning
  have hjoined : (s.pixelClock ⟨red.toNat, green.toNat, blue.toNat⟩
      lineSync fieldSync parity).video.delay = s.video.delay.tail ++
        [⟨codesAt s (s.video.clocksIntoLine + 1) ⟨red.toNat, green.toNat, blue.toNat⟩,
          lineSync, fieldSync, parity⟩] := by
    have hne : s.video.delay ≠ [] := by
      rintro hnil
      rw [hnil] at hdelay
      cases hdelay
    simp only [State.pixelClock_fields, State.codeNow_eq, Video.present]
    exact List.tail_append_of_ne_nil hne
  obtain ⟨t, hrun, hout⟩ := runAll_presents
    (s := s.pixelClock ⟨red.toNat, green.toNat, blue.toNat⟩ lineSync fieldSync parity)
    (q := ⟨codesAt s (s.video.clocksIntoLine + 1) ⟨red.toNat, green.toNat, blue.toNat⟩,
      lineSync, fieldSync, parity⟩) (ahead := s.video.delay.tail) (behind := []) hcs
    (by simpa using hrunning) hjoined (by rw [List.length_tail, hdelay, hlength])
  refine ⟨t, ?_, hout⟩
  rw [runAll, hexec]
  exact hrun

/-! ## The samples of the histogram (O29) -/

/-- A masked pixel's three values lie in 0..4095 (R2, R10). -/
theorem masked_mem (sn : Snapshot) (std : Standard) (x y : Nat) (p : RGB Int) :
    ∀ c ∈ (masked sn std x y p).toList, 0 ≤ c ∧ c ≤ 4095 := by
  rw [RGB.forall_mem_toList]
  exact ⟨clamp12_mem _, clamp12_mem _, clamp12_mem _⟩

/-- A sample's bin is one of 16, that of its luma (R139). -/
theorem binOf_masked {m : RGB Int} (h : ∀ c ∈ m.toList, 0 ≤ c ∧ c ≤ 4095) :
    binOf m < 16 ∧ (binOf m : Int) = (77 * m.r + 150 * m.g + 29 * m.b + 128) / 256 / 256 := by
  obtain ⟨hr, hg, hb⟩ := (RGB.forall_mem_toList ..).mp h
  unfold binOf luma
  omega

/-- The pixel lies on the sample grid (R138). -/
theorem sampled_iff {std : Standard} {x l : Nat} : sampled std x l = true ↔
    x % 8 = 0 ∧ l % 4 = 0 ∧ l ≤ (if std = .s525 then 240 else 284) := by
  unfold sampled
  rw [Bool.and_eq_true, Bool.and_eq_true, beq_iff_eq, beq_iff_eq, decide_eq_true_iff, and_assoc]
  cases std <;> rfl

/-- An active pixel on the grid of a field that counts is counted (R138, R140). -/
theorem State.binsNow_of_sampled {s : State} {p : RGB Int} {x l : Nat}
    (h : s.activePixel = some (x, l)) (hcounts : s.fieldCounts = true)
    (hgrid : sampled s.straps.standard x l = true) :
    s.binsNow p = countSample (s.pixelMask x l p) s.detector.bins := by
  unfold State.binsNow
  rw [h]
  exact if_pos (Bool.and_eq_true_iff.mpr ⟨hcounts, hgrid⟩)

/-- Where no active pixel of a field that counts lies on the grid nothing is counted (R138, R140). -/
theorem State.binsNow_of_not_sampled {s : State} {p : RGB Int}
    (h : ∀ x l, s.activePixel = some (x, l) →
      ¬ (s.fieldCounts = true ∧ sampled s.straps.standard x l = true)) :
    s.binsNow p = s.detector.bins := by
  unfold State.binsNow
  split
  next x l hactive => exact if_neg fun hboth => h x l hactive (Bool.and_eq_true_iff.mp hboth)
  next => rfl

/-- The histogram keeps its bins' number (R139). -/
theorem State.length_binsNow {s : State} {p : RGB Int} :
    (s.binsNow p).length = s.detector.bins.length := by
  unfold State.binsNow countSample
  split
  next => split <;> simp
  next => rfl

/-- Settles O29: the clock's sample falls on the grid by its pixel number and field line. -/
theorem pixelClockCountsSamples : Obligations.PixelClockCountsSamples := by
  unfold Obligations.PixelClockCountsSamples
  intro red green blue lineSync fieldSync parity s hrunning hbins
  generalize hp : (⟨red.toNat, green.toNat, blue.toNat⟩ : RGB Int) = p
  have hexec : exec (.pixelClock red green blue lineSync fieldSync parity) s = .next
      (s.pixelClock p lineSync fieldSync parity) := by
    rw [← hp]
    exact whenRunning_running s _ hrunning
  refine ⟨_, hexec, rfl, rfl, rfl, rfl, rfl, ?_, ?_, fun x l hactive hlocked hopen hx hl hlast => ?_,
    fun hoff => ?_⟩
  · exact Option.map_eq_none_iff
  · exact State.length_binsNow.trans hbins
  · have hcounts : s.fieldCounts = true := Bool.and_eq_true_iff.mpr ⟨hlocked, hopen⟩
    have hsample := State.binsNow_of_sampled (p := p)
      (s := { s with video := { s.video with clocksIntoLine := s.video.clocksIntoLine + 1 } })
      hactive hcounts (sampled_iff.mpr ⟨hx, hl, hlast⟩)
    obtain ⟨hbin, hluma⟩ := binOf_masked (masked_mem s.snapshot s.straps.standard x
      (2 * l + (if s.video.parity then 1 else 0)) p)
    exact ⟨_, rfl, _, hbin, hluma, hsample⟩
  · refine State.binsNow_of_not_sampled (s := { s with
      video := { s.video with clocksIntoLine := s.video.clocksIntoLine + 1 } }) fun x l hactive => ?_
    rintro ⟨hcounts, hgrid⟩
    obtain ⟨hlocked, hopen⟩ := Bool.and_eq_true_iff.mp hcounts
    obtain ⟨hx, hl, hlast⟩ := sampled_iff.mp hgrid
    rcases hoff x l hactive with h | h | h | h | h
    · rw [hlocked] at h
      cases h
    · rw [hopen] at h
      cases h
    · exact h hx
    · exact h hl
    · exact Nat.not_lt.mpr hlast h

end Sys2Proof.Machine

/-! Cues taken at arrival: REEL and FRAME (Section 6.1), and the loader's LOAD START and LOAD DATA (Sections 2.4, 2.5). -/

namespace Sys2Proof.Machine

open Safety

/-- A word is 0 when its number is. -/
theorem toNat_eq_zero {n : Nat} {w : BitVec n} : w.toNat = 0 ↔ w = 0 :=
  ⟨fun h => BitVec.eq_of_toNat_eq (h.trans BitVec.toNat_zero.symm), fun h => h ▸ BitVec.toNat_zero⟩

/-- A byte is known by its number. -/
theorem byte_eq_iff (b : Byte) {n : Nat} (hn : n < 256) : b = BitVec.ofNat 8 n ↔ b.toNat = n := by
  rw [← BitVec.toNat_inj, BitVec.toNat_ofNat, Nat.mod_eq_of_lt hn]

/-! ## REEL and FRAME -/

/-- TIMING's event, as REEL and FRAME leave it, is line work that sets the latch and leaves what was received (R97, R103). -/
theorem State.timing_effects (s : State) :
    (s.raise .timing).held .timing = true ∧ (s.raise .timing).line.fifo = s.line.fifo ∧
    { s.raise .timing with line := s.line, latches := s.latches } = s := by
  obtain ⟨hfifo, -⟩ := s.lineKept_raise .timing
  refine ⟨State.held_raise .timing, hfifo, ?_⟩
  rw [State.raise_eq]

/-- Settles O43: the branches of REEL's handling at arrival, read in order. -/
theorem reelEffects : Obligations.ReelEffects := by
  unfold Obligations.ReelEffects
  intro src id len s hrunning
  have hexec : exec (.reel src id len) s = .next (s.takeReel src id.toNat len.toNat) :=
    whenRunning_running s _ hrunning
  have hzero : len.toNat = 0 ↔ len = 0 := toNat_eq_zero
  rw [hexec, State.takeReel]
  split
  next => rfl
  next =>
    split
    next hlen =>
      rw [if_pos (hzero.mpr hlen)]
      exact ⟨_, rfl, rfl, s.timing_effects⟩
    next hlen =>
      rw [if_neg (mt hzero.mp hlen)]
      split
      next => rfl
      next =>
        refine ⟨_, rfl, rfl, rfl, rfl, rfl, rfl, fun n hn => Pool.initial_slot hn, rfl, rfl, rfl⟩

/-- Settles O44: the branches of FRAME's handling at arrival, read in order. -/
theorem frameEffects : Obligations.FrameEffects := by
  unfold Obligations.FrameEffects
  intro src index dir speed lead span s hrunning
  have hexec : exec (.frame src index dir speed lead span) s =
      .next (s.takeFrame src index.toNat dir speed lead.toNat span.toNat) :=
    whenRunning_running s _ hrunning
  have hzero : ∀ {w : BitVec 2}, w.toNat = 0 ↔ w = 0 := toNat_eq_zero
  have hlead : correctedLead lead.toNat = if lead = 0 then 1 else lead.toNat := by
    simp only [correctedLead, hzero]
  have hspan : correctedSpan speed span.toNat =
      if speed = .still ∨ span = 0 then 1 else span.toNat := by
    simp only [correctedSpan, hzero]
    by_cases hstill : speed = .still
    · rw [if_pos hstill, if_pos (.inl hstill)]
    · rw [if_neg hstill]
      simp only [hstill, false_or]
  rw [hexec, State.takeFrame]
  by_cases hauthority : s.authority ≠ some src.toNat
  case pos => rw [if_pos (.inl hauthority), if_pos hauthority]
  rw [if_neg hauthority]
  by_cases hstate : s.engineState = .rollcall ∨ s.engineState = .unsync
  case pos => rw [if_pos (.inr hstate), if_pos hstate]
  rw [if_neg (not_or.mpr ⟨hauthority, hstate⟩), if_neg hstate]
  have htiming : ∃ t, (Host.Outcome.next (s.raise .timing) : Host.Outcome State Fault Refusal) =
      .next t ∧ t = s.raise .timing ∧ t.held .timing = true ∧ t.line.fifo = s.line.fifo ∧
      { t with line := s.line, latches := s.latches } = s :=
    ⟨_, rfl, rfl, s.timing_effects⟩
  cases hreel : s.follower.reel with
  | none =>
    rw [if_pos (fun q hq => nomatch hq)]
    exact htiming
  | some r =>
    dsimp only
    by_cases hlength : r.length ≤ index.toNat
    case pos =>
      rw [if_pos (fun q hq => Option.mem_some.mp hq ▸ hlength), if_pos hlength]
      exact htiming
    case neg =>
      rw [if_neg (fun h => hlength (h r rfl)), if_neg hlength, hlead, hspan]
      exact ⟨_, _, _, rfl, rfl, rfl, rfl⟩

/-! ## LOAD START -/

/-- The pointer modes that LOAD START names (Table 2-2). -/
theorem PointerMode.ofByte_eq (mode : Byte) : PointerMode.ofByte mode =
    if 2 < mode.toNat then none
    else some (if mode = 0 then .increment else if mode = 1 then .decrement else .hold) := by
  have h0 : mode = 0 ↔ mode.toNat = 0 := byte_eq_iff mode (by decide)
  have h1 : mode = 1 ↔ mode.toNat = 1 := byte_eq_iff mode (by decide)
  have h2 : mode = 2 ↔ mode.toNat = 2 := byte_eq_iff mode (by decide)
  unfold PointerMode.ofByte
  simp only [h0, h1, h2]
  grind

/-- The targets that LOAD START names (R32). -/
theorem targetOf_eq (kind curve : Byte) : targetOf kind curve =
    if 2 < kind.toNat ∨ (kind = 0 ∧ 15 < curve.toNat) then none
    else some (if kind = 0 then .curve curve.toNat else if kind = 1 then .shadingH
      else .shadingV) := by
  have h0 : kind = 0 ↔ kind.toNat = 0 := byte_eq_iff kind (by decide)
  have h1 : kind = 1 ↔ kind.toNat = 1 := byte_eq_iff kind (by decide)
  have h2 : kind = 2 ↔ kind.toNat = 2 := byte_eq_iff kind (by decide)
  unfold targetOf
  simp only [h0, h1, h2]
  grind

/-- Settles O56: the tests of LOAD START in their order, with the targets and modes that its bytes name. -/
theorem loadStartService : Obligations.LoadStart := by
  unfold Obligations.LoadStart
  intro src dst kind curve start mode s c i haccepted
  have hexec := fun {t r data} => serveRequest_answers (t := t) (r := r) (data := data)
    (owner := loadStart kind curve start.toNat mode) haccepted
  by_cases hbusy : s.loader.state ≠ .idle
  case pos =>
    rw [if_pos hbusy]
    exact hexec (if_pos hbusy)
  have hstart : loadStart kind curve start.toNat mode (served s) =
      match targetOf kind curve, PointerMode.ofByte mode with
      | some t, some m =>
        if t = .curve 0 then (served s, refuse .readOnly)
        else ({ served s with
            loader := ⟨.filling, some t, s.tableOf t, start.toNat % t.size, m, none⟩ },
          some (.done, natBytes (start.toNat % t.size)))
      | _, _ => (served s, refuse .notFound) := by
    refine (if_neg hbusy).trans ?_
    rfl
  rw [if_neg hbusy]
  rw [targetOf_eq, PointerMode.ofByte_eq] at hstart
  by_cases hkind : 2 < kind.toNat ∨ (kind = 0 ∧ 15 < curve.toNat)
  case pos =>
    rw [if_pos (by tauto)]
    rw [if_pos hkind] at hstart
    exact hexec hstart
  by_cases hmode : 2 < mode.toNat
  case pos =>
    rw [if_pos (by tauto)]
    rw [if_neg hkind, if_pos hmode] at hstart
    exact hexec hstart
  rw [if_neg hkind, if_neg hmode] at hstart
  dsimp only at hstart
  rw [if_neg (by tauto)]
  have hcurve : curve = 0 ↔ curve.toNat = 0 := toNat_eq_zero.symm
  by_cases hidentity : kind = 0 ∧ curve = 0
  case pos =>
    obtain ⟨hk, hc⟩ := hidentity
    rw [if_pos ⟨hk, hc⟩]
    rw [if_pos (by rw [if_pos hk, hcurve.mp hc])] at hstart
    exact hexec hstart
  case neg =>
    rw [if_neg hidentity]
    rw [if_neg (by grind)] at hstart
    refine ⟨_, _, _, ?_, ?_, ?_, hexec hstart⟩
    · rintro rfl
      exact ⟨rfl, rfl, rfl⟩
    · rintro rfl
      exact ⟨rfl, rfl, rfl⟩
    · rintro rfl
      exact ⟨rfl, rfl, rfl⟩

/-! ## LOAD DATA -/

/-- Where the pointer stands after `k` values (R34). -/
def placeOf (m : PointerMode) (size pointer k : Nat) : Nat :=
  match m with
  | .increment => (pointer + k) % size
  | .decrement => (pointer + k * (size - 1)) % size
  | .hold => pointer

/-- The pointer moves from its place to the next one, and wraps (R34). -/
theorem movePointer_placeOf (m : PointerMode) (t : LoadTarget) (pointer k : Nat) :
    movePointer m t.size (placeOf m t.size pointer k) = placeOf m t.size pointer (k + 1) := by
  have hsize : t.size = 257 ∨ t.size = 64 := by cases t <;> simp [LoadTarget.size]
  cases m with
  | hold => rfl
  | increment =>
    unfold movePointer placeOf
    rcases hsize with h | h <;> rw [h] <;> dsimp only <;> split <;> omega
  | decrement =>
    unfold movePointer placeOf
    rcases hsize with h | h <;> rw [h] <;> dsimp only <;> split <;> omega

/-- Values written one after the other (R35): each goes where the pointer then stands, and the last one at a place stays there. -/
theorem Loader.writeValues (t : LoadTarget) (l : Loader) (hpointer : l.pointer < t.size)
    (hbuffer : l.buffer.length = t.size) (values : List Nat) :
    ∀ m, m = values.foldl (Loader.writeValue t) l →
      m = { l with buffer := m.buffer, pointer := placeOf l.mode t.size l.pointer values.length } ∧
      m.buffer.length = l.buffer.length ∧
      ∀ j < t.size,
        ((∀ n < values.length, placeOf l.mode t.size l.pointer n ≠ j) →
          m.buffer.getD j 0 = l.buffer.getD j 0) ∧
        (∀ n w, values[n]? = some w → placeOf l.mode t.size l.pointer n = j →
          (∀ k < values.length, n < k → placeOf l.mode t.size l.pointer k ≠ j) →
          m.buffer.getD j 0 = t.clamp w) := by
  induction values using List.reverseRecOn with
  | nil =>
    intro m hm
    have hm : m = l := hm
    have hplace : placeOf l.mode t.size l.pointer 0 = l.pointer := by
      unfold placeOf
      split <;> simp [Nat.mod_eq_of_lt hpointer]
    refine ⟨?_, by rw [hm], fun j _ => ⟨fun _ => by rw [hm], fun n w hn => nomatch hn⟩⟩
    rw [List.length_nil, hplace, hm]
  | append_singleton values v ih =>
    rintro m hm
    rw [List.foldl_append] at hm
    obtain ⟨hfields, hlength, hwritten⟩ := ih _ rfl
    generalize values.foldl (Loader.writeValue t) l = q at hm hfields hlength hwritten
    have hlen : (values ++ [v]).length = values.length + 1 := List.length_append
    have hq : q.pointer = placeOf l.mode t.size l.pointer values.length := by rw [hfields]
    have hmode : q.mode = l.mode := by rw [hfields]
    have hm : m = { q with
        buffer := q.buffer.set (placeOf l.mode t.size l.pointer values.length) (t.clamp v)
        pointer := placeOf l.mode t.size l.pointer (values.length + 1) } := by
      rw [hm, ← movePointer_placeOf, ← hq, ← hmode]
      rfl
    rw [hlen]
    refine ⟨?_, by rw [hm, List.length_set, hlength], fun j hj => ⟨fun hnone => ?_,
      fun n w hn hplace hlast => ?_⟩⟩
    · rw [hm, hfields]
    · rw [hm]
      dsimp only
      rw [List.getD_eq_getElem?_getD, List.getElem?_set_ne (hnone _ (by omega)),
        ← List.getD_eq_getElem?_getD]
      exact (hwritten j hj).1 fun n hlt => hnone n (by omega)
    · rw [hm]
      dsimp only
      rcases Nat.lt_or_ge n values.length with hlt | hge
      · rw [List.getElem?_append_left hlt] at hn
        rw [List.getD_eq_getElem?_getD, List.getElem?_set_ne (hlast _ (by omega) hlt),
          ← List.getD_eq_getElem?_getD]
        exact (hwritten j hj).2 n w hn hplace fun k hk hnk => hlast k (by omega) hnk
      · obtain ⟨hn', -⟩ := List.getElem?_eq_some_iff.mp hn
        obtain rfl : n = values.length := by omega
        obtain rfl : v = w := by simpa using hn
        rw [hplace, List.getD_eq_getElem?_getD, List.getElem?_set_self (by omega)]
        rfl

/-- A target's table has the target's size (Table 2-1). -/
theorem length_of_tableOk {t : LoadTarget} {b : List Nat} (h : tableOk t b = true) :
    b.length = t.size := by
  cases t with
  | curve n => exact (of_decide_eq_true h).2.2.1
  | shadingH => exact (of_decide_eq_true h).1
  | shadingV => exact (of_decide_eq_true h).1

/-- The clamp of a target is to its range (R35). -/
theorem LoadTarget.clamp_eq {t : LoadTarget} {low high size : Nat}
    (h : (low, high, size) = match t with
      | .curve _ => (0, 4096, 257)
      | .shadingH => (768, 1280, 64)
      | .shadingV => (768, 1280, 64)) (v : Nat) :
    t.size = size ∧ t.clamp v = max low (min high v) ∧
    t.clamped v = if v < low ∨ high < v then 1 else 0 := by
  have hclamp : t.size = size ∧ t.clamp v = max low (min high v) ∧ low ≤ high := by
    cases t <;> cases h <;> unfold LoadTarget.clamp clampNat <;>
      exact ⟨rfl, by grind, by decide⟩
  obtain ⟨hsize, hclamp, hle⟩ := hclamp
  refine ⟨hsize, hclamp, ?_⟩
  unfold LoadTarget.clamped
  rw [hclamp]
  grind

/-- A sum of ones over the elements with a property counts them. -/
theorem sum_map_ite_countP {α : Type} (p : α → Prop) [DecidablePred p] (l : List α) :
    (l.map fun a => if p a then 1 else 0).sum = l.countP (fun a => decide (p a)) := by
  induction l with
  | nil => rfl
  | cons a l ih =>
    rw [List.map_cons, List.sum_cons, ih, List.countP_cons]
    simp only [decide_eq_true_eq]
    omega

/-- Settles O57: the refusals by the loader's state, and what values written one after the other leave. -/
theorem loadDataService : Obligations.LoadData := by
  unfold Obligations.LoadData
  intro src dst values s c i haccepted hsound
  have hexec := fun {t r data} => serveRequest_answers (t := t) (r := r) (data := data)
    (owner := loadData (values.map (·.toNat))) haccepted
  refine ⟨fun hstate => hexec ?_, fun hstate => hexec ?_, ?_⟩
  · have hserved : (served s).loader.state = .idle := hstate
    unfold loadData
    rw [hserved]
    rfl
  · have hserved : (served s).loader.state = .installPending := hstate
    unfold loadData
    rw [hserved]
    rfl
  intro target hstate htarget low high size place hrange hplace
  have hclamp := fun v => LoadTarget.clamp_eq hrange v
  obtain rfl := (hclamp 0).1
  obtain ⟨-, -, -, -, -, -, hloading, -⟩ := hsound
  obtain ⟨held, hheld, hok, hpointer⟩ := hloading (by rw [hstate]; decide)
  obtain rfl : target = held := Option.some.inj (htarget.symm.trans hheld)
  have hlength : s.loader.buffer.length = target.size := length_of_tableOk hok
  have hplaces : ∀ k, place k = placeOf s.loader.mode target.size s.loader.pointer k := fun k =>
    (hplace k).trans (by cases s.loader.mode <;> rfl)
  obtain ⟨hfields, hkept, hwritten⟩ := Loader.writeValues target s.loader (hlength ▸ hpointer)
    hlength (values.map (·.toNat)) _ rfl
  have hcount : ((values.map (·.toNat)).map target.clamped).sum =
      values.countP (fun w => decide (w.toNat < low ∨ high < w.toNat)) := by
    rw [← sum_map_ite_countP, List.map_map]
    exact congrArg List.sum (List.map_congr_left fun w _ => (hclamp w.toNat).2.2)
  have hanswer : loadData (values.map (·.toNat)) (served s) =
      ({ served s with
          loader := (values.map (·.toNat)).foldl (Loader.writeValue target) s.loader },
        some (doneBy ((values.map (·.toNat)).map target.clamped).sum,
          natBytes ((values.map (·.toNat)).foldl (Loader.writeValue target) s.loader).pointer ++
            [byteOf ((values.map (·.toNat)).map target.clamped).sum])) := by
    have hstate' : (served s).loader.state = .filling := hstate
    have htarget' : (served s).loader.target = some target := htarget
    unfold loadData
    rw [hstate', htarget']
    rfl
  generalize (values.map (·.toNat)).foldl (Loader.writeValue target) s.loader = l at *
  simp only [List.length_map, ← hplaces, List.getElem?_map, Option.map_eq_some_iff] at hfields hwritten
  have hpointer : l.pointer = place values.length := by rw [hfields]
  rw [hcount, hpointer] at hanswer
  refine ⟨_, _, rfl, hexec hanswer, hpointer, hkept, fun j hj => ?_, ?_⟩
  · obtain ⟨hother, hlast⟩ := hwritten j hj
    refine ⟨hother, fun n w hn hnj hno => ?_⟩
    rw [hlast n w.toNat ⟨w, hn, rfl⟩ hnj hno]
    exact (hclamp w.toNat).2.1
  · dsimp only
    rw [hfields]
    rfl

end Sys2Proof.Machine

/-! Port writes (Section 12.3) and GRADE PRIMARY (Section 3.3). -/

namespace Sys2Proof.Machine

open Safety

/-! ## Limits -/

/-- The clamp as a minimum and a maximum (Table 0-3). -/
theorem clampNat_eq {lo hi : Nat} (h : lo ≤ hi) (x : Nat) :
    clampNat lo hi x = max lo (min hi x) := by
  unfold clampNat
  split
  · omega
  · split <;> omega

/-- DONE_CLAMPED tells that a value lay outside its limits (R53, R194). -/
theorem doneBy_clampedNat (lo hi x : Nat) :
    doneBy (clampedNat lo hi x) = if lo ≤ x ∧ x ≤ hi then .done else .doneClamped := by
  unfold doneBy clampedNat
  grind

/-- DONE_CLAMPED tells that one of three signed values lay outside its limits (R194). -/
theorem doneBy_sumRGB {α : Type} (lo hi : Int) (f : α → Int) (k : RGB α)
    [Decidable (∀ a ∈ k.toList, lo ≤ f a ∧ f a ≤ hi)] :
    doneBy (sumRGB (k.map fun a => clampedInt lo hi (f a))) =
      if ∀ a ∈ k.toList, lo ≤ f a ∧ f a ≤ hi then .done else .doneClamped := by
  have hone : ∀ a, clampedInt lo hi a = 0 ↔ lo ≤ a ∧ a ≤ hi := by
    intro a
    unfold clampedInt
    grind
  have hsum : sumRGB (k.map fun a => clampedInt lo hi (f a)) = 0 ↔
      ∀ a ∈ k.toList, lo ≤ f a ∧ f a ≤ hi := by
    simp only [sumRGB, RGB.map, Nat.add_eq_zero_iff, hone, RGB.toList, List.forall_mem_cons,
      List.not_mem_nil, false_imp_iff, implies_true, and_true, and_assoc]
  simp only [doneBy, hsum]

/-! ## Port writes -/

/-- Port 4 holds the low ten bits of what was written (R170, R192). -/
theorem setWidth_ten (w : U16) : (w.setWidth 10).setWidth 16 = w &&& 0x3FF := by
  refine BitVec.eq_of_toNat_eq ?_
  have hmask : w.toNat &&& (2 ^ 10 - 1) = w.toNat % 2 ^ 10 := Nat.and_two_pow_sub_one_eq_mod _ _
  rw [BitVec.toNat_and]
  simp only [BitVec.toNat_setWidth]
  have hlt := w.isLt
  refine Eq.trans ?_ hmask.symm
  omega

/-- The film modes that a byte names (R170). -/
theorem FilmMode.ofByte_eq (m : Byte) : FilmMode.ofByte m =
    if 1 < m.toNat then none else some (if m = 0 then .positive else .negative) := by
  have h0 : m = 0 ↔ m.toNat = 0 := byte_eq_iff m (by decide)
  have h1 : m = 1 ↔ m.toNat = 1 := byte_eq_iff m (by decide)
  unfold FilmMode.ofByte
  simp only [h0, h1]
  grind

/-- PORT WRITE refuses a port that does not exist, a read-only port, and contents of another length than the port's (R193). -/
theorem portWrite_refused {port : Byte} {data : List Byte}
    (h : port.toNat < 4 ∨ 10 < port.toNat ∨
      data.length ≠ if port = 5 then 1 else if 6 ≤ port.toNat ∧ port.toNat ≤ 8 then 6 else 2)
    (s : State) : portWrite port data s = (s, refuse
      (if 16 ≤ port.toNat ∨ (4 ≤ port.toNat ∧ port.toNat ≤ 10) then .notFound
        else .readOnly)) := by
  have h5 : port = 5 ↔ port.toNat = 5 := byte_eq_iff port (by decide)
  rw [if_congr h5 rfl rfl] at h
  unfold portWrite
  split
  case h_8 =>
    split
    next hbeyond => rw [if_pos (.inl hbeyond)]
    next hbeyond =>
      split
      next hrange => rw [if_pos (.inr hrange)]
      next hrange => rw [if_neg (not_or.mpr ⟨hbeyond, hrange⟩)]
  all_goals
    rename_i hport
    simp [hport] at h

/-- PORT WRITE with a port's number and contents of its length is that port's write (R193). -/
theorem portWrite_words :
    (∀ w : U16, portWrite 4 (bytesOf16 w) = writeEnables w ∧
      portWrite 9 (bytesOf16 w) = writeThreshold w.toNat ∧
      portWrite 10 (bytesOf16 w) = writeMinScene w.toNat) ∧
    ∀ (row : Channel) (k : RGB U16),
      portWrite (Channel.port row) (bytesOf16 k.r ++ bytesOf16 k.g ++ bytesOf16 k.b) =
        writeMatrixRow row k := by
  refine ⟨fun w => ?_, fun row k => ?_⟩
  · have hw := word16_bytesOf16 w
    refine ⟨?_, ?_, ?_⟩ <;> funext s
    · exact congrArg (fun v => writeEnables v s) hw
    · exact congrArg (fun v : U16 => writeThreshold v.toNat s) hw
    · exact congrArg (fun v : U16 => writeMinScene v.toNat s) hw
  · have hk : (⟨word16 (k.r.extractLsb' 8 8) (k.r.extractLsb' 0 8),
        word16 (k.g.extractLsb' 8 8) (k.g.extractLsb' 0 8),
        word16 (k.b.extractLsb' 8 8) (k.b.extractLsb' 0 8)⟩ : RGB U16) = k := by
      rw [word16_bytesOf16, word16_bytesOf16, word16_bytesOf16]
    funext s
    cases row <;> exact congrArg (fun v => writeMatrixRow _ v s) hk

/-- Two commands that serve the same cue with the same owner run alike. -/
theorem exec_alike {i j : Instr} {s : State} (h : exec i s = exec j s) :
    ∃ t, exec i s = .next t ∧ exec j s = .next t := by
  obtain ⟨t, ht, -⟩ := exec_effect i s
  exact ⟨t, ht, h ▸ ht⟩

/-- Settles O59: each port's own write first, then PORT WRITE by port and contents. -/
theorem portWrites : Obligations.PortWrites := by
  unfold Obligations.PortWrites
  refine ⟨fun src dst s => ⟨?enables, ?film, ?matrix, ?threshold, ?minScene⟩,
    fun src dst port data s => ?generic⟩
  case enables =>
    intro w haccepted
    rw [← setWidth_ten]
    exact serveRequest_answers haccepted rfl
  case film =>
    intro m haccepted
    have howner : writeFilmMode m (served s) = match FilmMode.ofByte m with
      | some f => ({ served s with profile := { s.profile with filmRequested := f } },
          some (.done, [5, f.code]))
      | none => (served s, refuse .notFound) := by
      unfold writeFilmMode
      rfl
    rw [FilmMode.ofByte_eq] at howner
    refine ⟨fun hbad => ?_, fun hgood => ?_⟩
    · rw [if_pos hbad] at howner
      exact serveRequest_answers haccepted howner
    · rw [if_neg (Nat.not_lt.mpr hgood)] at howner
      have hcode : FilmMode.code (if m = 0 then .positive else .negative) = m := by
        have h0 : m = 0 ↔ m.toNat = 0 := byte_eq_iff m (by decide)
        split
        next h => exact h.symm
        next h =>
          rw [h0] at h
          exact ((byte_eq_iff m (n := 1) (by decide)).mpr (by omega)).symm
      dsimp only at howner
      rw [hcode] at howner
      exact serveRequest_answers haccepted howner
  case matrix =>
    intro row k c hc haccepted
    obtain ⟨v, hv⟩ : ∃ v, v = k.map (fun a => max (-512) (min 511 a.toInt)) := ⟨_, rfl⟩
    have hvalues : k.map (fun a => clampInt (-512) 511 a.toInt) = v := by
      rw [hv]
      congr 1
      funext a
      exact clampInt_eq (by decide) _
    have howner : writeMatrixRow row k (served s) =
        ({ served s with
            profile := { s.profile with matrix := s.profile.matrix.setRow row v } },
          some (if ∀ a ∈ k.toList, -512 ≤ a.toInt ∧ a.toInt ≤ 511 then .done else .doneClamped,
            Channel.port row :: rowBytes v)) := by
      rw [← hvalues, ← doneBy_sumRGB (-512) 511 (fun a : BitVec 16 => a.toInt) k]
      rfl
    refine ⟨v, s.profile.matrix.setRow row v, hv, ?_, ?_, ?_, ?_⟩
    · rintro rfl; rfl
    · rintro rfl; rfl
    · rintro rfl; rfl
    · subst hc
      cases row <;> exact serveRequest_answers haccepted howner
  case threshold =>
    intro w haccepted
    have howner : writeThreshold w.toNat (served s) = ({ served s with profile :=
          { s.profile with threshold := min 1024 w.toNat } },
        some (if w.toNat ≤ 1024 then .done else .doneClamped, 9 :: natBytes (min 1024 w.toNat))) := by
      have hresult := doneBy_clampedNat 0 1024 w.toNat
      simp only [Nat.zero_le, true_and] at hresult
      rw [writeThreshold, clampNat_zero, hresult]
      rfl
    exact serveRequest_answers haccepted howner
  case minScene =>
    intro w haccepted
    have howner : writeMinScene w.toNat (served s) = ({ served s with profile :=
          { s.profile with minScene := max 1 (min 255 w.toNat) } },
        some (if 1 ≤ w.toNat ∧ w.toNat ≤ 255 then .done else .doneClamped,
          10 :: natBytes (max 1 (min 255 w.toNat)))) := by
      rw [writeMinScene, clampNat_one, doneBy_clampedNat]
      rfl
    exact serveRequest_answers haccepted howner
  case generic =>
    intro c i haccepted
    have hexec := fun {t r data'} => serveRequest_answers (t := t) (r := r) (data := data')
      (owner := portWrite port data) haccepted
    have h5 : port = 5 ↔ port.toNat = 5 := byte_eq_iff port (by decide)
    obtain ⟨hwords, hrows⟩ := portWrite_words
    refine ⟨fun hbeyond => hexec ?_, fun hreadOnly => hexec ?_, fun hlow hhigh hlength => hexec ?_,
      ?_, ?_, ?_, ?_, ?_⟩
    · rw [portWrite_refused (by omega), if_pos (.inl hbeyond)]
      rfl
    · rw [portWrite_refused (by omega), if_neg (by omega)]
      rfl
    · rw [portWrite_refused (.inr (.inr hlength)), if_pos (.inr ⟨hlow, hhigh⟩)]
      rfl
    · rintro w rfl rfl
      exact exec_alike (congrArg (fun o => serveRequest c o s) (hwords w).1)
    · rintro m rfl rfl
      exact exec_alike rfl
    · rintro row k hport rfl
      have hport : port = Channel.port row := by
        rw [hport]
        cases row <;> rfl
      subst hport
      exact exec_alike (congrArg (fun o => serveRequest c o s) (hrows row k))
    · rintro w rfl rfl
      exact exec_alike (congrArg (fun o => serveRequest c o s) (hwords w).2.1)
    · rintro w rfl rfl
      exact exec_alike (congrArg (fun o => serveRequest c o s) (hwords w).2.2)

/-! ## GRADE PRIMARY -/

/-- What the clamps of R53 make of one channel's values. -/
theorem WirePrimary.stored_eq (w : WirePrimary) : w.stored =
    ⟨max (-512) (min 511 w.lift.toInt), min 4095 w.gain.toNat, w.curve.toNat⟩ := by
  rw [WirePrimary.stored, clampInt_eq (by decide), clampNat_zero]

/-- The values clamped are the lifts and the gains beyond their limits (R53). -/
theorem sumRGB_clamped (p : RGB WirePrimary) : sumRGB (p.map WirePrimary.clamped) =
    p.toList.countP (fun w => decide (w.lift.toInt < -512 ∨ 511 < w.lift.toInt)) +
      p.toList.countP (fun w => decide (4095 < w.gain.toNat)) := by
  rw [← sumRGB_map_ite, ← sumRGB_map_ite]
  simp only [sumRGB, RGB.map, WirePrimary.clamped, clampedInt, clampedNat_zero]
  omega

section
variable {s : State} {n : Nat} {r : Slot} {p : RGB WirePrimary}

/-- The test of the curve numbers (Table 3-4). -/
theorem every_curve_iff :
    p.every (fun c => c.curve.toNat < 16) = true ↔ ¬ ∃ w ∈ p.toList, 15 < w.curve.toNat := by
  simp [RGB.every, RGB.toList, and_assoc, Nat.lt_succ_iff]

/-- A curve number above 15 is refused (R54). -/
theorem gradePrimary_noCurve (hlt : n < 128) (h0 : n ≠ 0) (hslot : s.pool.slot n = some r)
    (hcurve : ∃ w ∈ p.toList, 15 < w.curve.toNat) :
    gradePrimary n p s = (s, refuse .notFound) := by
  rw [gradePrimary, withEditable_allocated hlt h0 hslot,
    if_neg (mt every_curve_iff.mp (not_not.mpr hcurve))]

/-- A taken GRADE PRIMARY pushes the prior primary part and writes the limited values (R53, R54). -/
theorem gradePrimary_taken (hlt : n < 128) (h0 : n ≠ 0) (hslot : s.pool.slot n = some r)
    (hcurve : ¬ ∃ w ∈ p.toList, 15 < w.curve.toNat) {k : Nat}
    (hk : k = sumRGB (p.map WirePrimary.clamped)) :
    gradePrimary n p s = ((s.push (.primaryChanged n r.grade.primary)).writeSlot n
      { r.grade with primary := p.map WirePrimary.stored },
      some (if k = 0 then .done else .doneClamped, [byteOf n, byteOf k])) := by
  rw [gradePrimary, withEditable_allocated hlt h0 hslot, if_pos (every_curve_iff.mpr hcurve), hk]
  rfl

end

/-- Settles O54: the tests of Table 3-4 in order, a taken edit by what every grade edit does. -/
theorem gradePrimaryService : Obligations.GradePrimary := by
  unfold Obligations.GradePrimary
  intro src dst slot p s c i haccepted hsound
  have hexec := fun {t r data} => serveRequest_answers (t := t) (r := r) (data := data)
    (owner := gradePrimary slot.toNat p) haccepted
  refine refused_or_slot hexec fun hlt h0 => ?_
  split
  next hfree => exact hexec (withEditable_free (s := served s) h0 hfree)
  next halloc =>
    obtain ⟨r, hslot⟩ := Option.ne_none_iff_exists'.mp halloc
    split
    next hcurve => exact hexec (gradePrimary_noCurve (s := served s) hlt h0 hslot hcurve)
    next hcurve =>
      have htaken := gradePrimary_taken (s := served s) hlt h0 hslot hcurve
        (sumRGB_clamped p).symm
      rw [byteOf_toNat] at htaken
      have hstored : p.map WirePrimary.stored = p.map (fun w =>
          ⟨max (-512) (min 511 w.lift.toInt), min 4095 w.gain.toNat, w.curve.toNat⟩) :=
        congrArg p.map (funext WirePrimary.stored_eq)
      refine ⟨r.grade, _, _, _, ?_, rfl, rfl, hexec htaken, ?_⟩
      · rw [gradeOf, hslot]
        rfl
      · rw [← hstored]
        exact gradeEdit_effects (s := served s) (e := .primaryChanged slot.toNat r.grade.primary)
          hsound h0 halloc rfl rfl { r.grade with primary := p.map WirePrimary.stored }

end Sys2Proof.Machine

/-! The queries: SCENE QUERY (Section 4.9), GRADE QUERY (Section 3.4) and PORT READ (Section 12.3). -/

namespace Sys2Proof.Machine

open Safety

/-! ## SCENE QUERY -/

section
variable {t before after : List Scene} {r : Scene} {f : Nat}

/-- The ordered table is the records up to a frame and those beyond it. -/
theorem filter_append_filter_start (hs : Sorted t) :
    t.filter (fun x => x.start ≤ f) ++ t.filter (fun x => f < x.start) = t := by
  refine sorted_ext ?_ hs fun x => ?_
  · refine List.pairwise_append.mpr ⟨hs.filter _, hs.filter _, fun a ha b hb => ?_⟩
    exact (of_decide_eq_true (List.mem_filter.mp ha).2).trans_lt
      (of_decide_eq_true (List.mem_filter.mp hb).2)
  · rw [List.mem_append, List.mem_filter, List.mem_filter, ← and_or_left, decide_eq_true_eq,
      decide_eq_true_eq]
    exact and_iff_left (Nat.lt_or_ge f x.start).symm

/-- The scene of a frame is the last record that starts at or before it (R67). -/
theorem sceneOf_split (hs : Sorted t) (hzero : ∃ x ∈ t, x.start = 0) (f : Nat) :
    ∃ before after, t = before ++ sceneOf t f :: after ∧ ∀ x ∈ after, f < x.start := by
  obtain ⟨x, hx, hstart⟩ := hzero
  have hmem : x ∈ t.filter (fun r => r.start ≤ f) :=
    List.mem_filter.mpr ⟨hx, decide_eq_true (hstart ▸ Nat.zero_le f)⟩
  have hlast : (t.filter (fun r => r.start ≤ f)).getLast? = some (sceneOf t f) := by
    rw [sceneOf, List.getLast?_eq_some_getLast (List.ne_nil_of_mem hmem)]
    rfl
  obtain ⟨before, hbefore⟩ := List.getLast?_eq_some_iff.mp hlast
  refine ⟨before, t.filter (fun x => f < x.start), ?_,
    fun x hx => of_decide_eq_true (List.mem_filter.mp hx).2⟩
  rw [← List.singleton_append, ← List.append_assoc, ← hbefore, filter_append_filter_start hs]

/-- A record's position is the number of records before it (R64). -/
theorem positionOf_split (hs : Sorted (before ++ r :: after)) :
    positionOf (before ++ r :: after) r.start = before.length := by
  obtain ⟨-, hafter, hbefore⟩ := List.pairwise_append.mp hs
  have hkeep : before.filter (fun x => x.start < r.start) = before :=
    List.filter_eq_self.mpr fun x hx => decide_eq_true (hbefore x hx r List.mem_cons_self)
  have hdrop : (r :: after).filter (fun x => x.start < r.start) = [] := by
    refine List.filter_eq_nil_iff.mpr fun x hx => ?_
    rcases List.mem_cons.mp hx with rfl | hx
    · simp
    · simpa using Nat.le_of_lt ((List.pairwise_cons.mp hafter).1 x hx)
  rw [positionOf, List.filter_append, hkeep, hdrop, List.append_nil]

end

section
variable {s : State} {f : Nat}

/-- A frame is beyond the reel held (R70). -/
theorem State.reelTest_eq_outOfReel :
    s.reelTest f = .outOfReel ↔ ∃ q ∈ s.follower.reel, q.length ≤ f := by
  unfold State.reelTest
  cases s.follower.reel with
  | none => simp
  | some q => by_cases h : q.length ≤ f <;> simp [h]

end

/-- A station number in one byte. -/
theorem setWidth_station (n : Station) : n.setWidth 8 = byteOf n.toNat := by
  refine BitVec.eq_of_toNat_eq ?_
  simp [byteOf]

/-- The answers of SCENE QUERY, by mode (R79, R80). -/
theorem sceneQuery_answers (mode : Byte) (arg : Nat) (s : State) :
    (mode = 0 → (∃ q ∈ s.follower.reel, q.length ≤ arg) →
      sceneQuery mode arg s = (s, refuse .outOfReel)) ∧
    (mode = 0 → (∀ q ∈ s.follower.reel, arg < q.length) → sceneQuery mode arg s =
      (s, some (.done, sceneData s.scenes (positionOf s.scenes (sceneOf s.scenes arg).start)
        (sceneOf s.scenes arg)))) ∧
    (mode = 1 → ∀ r, s.scenes[arg]? = some r →
      sceneQuery mode arg s = (s, some (.done, sceneData s.scenes arg r))) ∧
    (mode = 1 → s.scenes.length ≤ arg → sceneQuery mode arg s = (s, refuse .notFound)) ∧
    (mode ≠ 0 → mode ≠ 1 → sceneQuery mode arg s = (s, refuse .notFound)) := by
  refine ⟨?_, ?_, ?_, ?_, ?_⟩
  · rintro rfl hbeyond
    exact if_pos (State.reelTest_eq_outOfReel.mpr hbeyond)
  · rintro rfl hwithin
    refine if_neg (mt State.reelTest_eq_outOfReel.mp ?_)
    rintro ⟨q, hq, hle⟩
    exact absurd (hwithin q hq) (Nat.not_lt.mpr hle)
  · rintro rfl r hr
    show (match s.scenes[arg]? with | some r => _ | none => _) = _
    rw [hr]
  · rintro rfl hlength
    show (match s.scenes[arg]? with | some r => _ | none => _) = _
    rw [List.getElem?_eq_none hlength]
  · intro h0 h1
    rw [sceneQuery, if_neg h0, if_neg h1]

/-! ## GRADE QUERY -/

/-- A 12-bit pair in three bytes, as numbers (R170). -/
theorem pairBytes_eq {a b : Nat} (ha : a < 4096) (hb : b < 4096) :
    pairBytes (BitVec.ofNat 12 a) (BitVec.ofNat 12 b) =
      [byteOf (a / 16), byteOf (a % 16 * 16 + b / 256), byteOf (b % 256)] := by
  have hw : (BitVec.ofNat 12 a ++ BitVec.ofNat 12 b : BitVec 24).toNat = a * 4096 + b := by
    rw [BitVec.toNat_append, ← Nat.shiftLeft_add_eq_or_of_lt (BitVec.isLt _), Nat.shiftLeft_eq,
      BitVec.toNat_ofNat, BitVec.toNat_ofNat, Nat.mod_eq_of_lt ha, Nat.mod_eq_of_lt hb]
  have hbyte : ∀ k n, (a * 4096 + b) / 2 ^ k % 256 = n % 256 →
      (BitVec.ofNat 12 a ++ BitVec.ofNat 12 b : BitVec 24).extractLsb' k 8 = byteOf n := by
    intro k n h
    refine BitVec.eq_of_toNat_eq ?_
    rw [BitVec.extractLsb'_toNat, hw, Nat.shiftRight_eq_div_pow, byteOf, BitVec.toNat_ofNat]
    exact h
  unfold pairBytes
  dsimp only
  rw [hbyte 16 (a / 16) (by omega), hbyte 8 (a % 16 * 16 + b / 256) (by omega),
    hbyte 0 (b % 256) (by omega)]

/-- The vector part of a query's answer, as numbers (R170). -/
theorem vectorReply_eq {v : Vec} {p : Nat} (hv : VecOk v) (hp : p < 8) :
    ∀ pair : Nat → Nat → List Byte,
      (∀ a b, pair a b = [byteOf (a / 16), byteOf (a % 16 * 16 + b / 256), byteOf (b % 256)]) →
    ∃ (first : Byte) (coordinates : List Byte),
      (match v.rect with
        | none => first = byteOf (128 + p) ∧ coordinates = []
        | some q => first = byteOf (128 + 64 + p) ∧ coordinates = pair q.x0 q.x1 ++ pair q.y0 q.y1) ∧
      vectorReply p v = [first] ++ pair v.lo.r v.hi.r ++ pair v.lo.g v.hi.g ++ pair v.lo.b v.hi.b ++
        intBytes v.offset.r ++ intBytes v.offset.g ++ intBytes v.offset.b ++ coordinates := by
  intro pair hpair
  obtain ⟨hlo, hhi, -, hrect⟩ := hv
  have hbytes : ∀ {a b : Nat}, a ≤ 4095 → b ≤ 4095 →
      pairBytes (BitVec.ofNat 12 a) (BitVec.ofNat 12 b) = pair a b := fun ha hb =>
    (pairBytes_eq (Nat.lt_succ_of_le ha) (Nat.lt_succ_of_le hb)).trans (hpair _ _).symm
  have hbox : boxBytes v = pair v.lo.r v.hi.r ++ pair v.lo.g v.hi.g ++ pair v.lo.b v.hi.b ++
      intBytes v.offset.r ++ intBytes v.offset.g ++ intBytes v.offset.b := by
    rw [RGB.forall_mem_toList] at hlo hhi
    obtain ⟨hlor, hlog, hlob⟩ := hlo
    obtain ⟨hhir, hhig, hhib⟩ := hhi
    rw [boxBytes, hbytes hlor hhir, hbytes hlog hhig, hbytes hlob hhib]
    simp [RGB.toList]
  rw [vectorReply, hbox, Nat.mod_eq_of_lt hp]
  cases hq : v.rect with
  | none =>
    refine ⟨_, _, ⟨rfl, rfl⟩, ?_⟩
    simp
  | some q =>
    obtain ⟨hx0, hx1, hy0, hy1⟩ := hrect q hq
    refine ⟨_, _, ⟨rfl, rfl⟩, ?_⟩
    rw [← hbytes (by omega : q.x0 ≤ 4095) (by omega : q.x1 ≤ 4095),
      ← hbytes (by omega : q.y0 ≤ 4095) (by omega : q.y1 ≤ 4095)]
    simp [rectBytes]

/-- An allocated slot is one of the pool's. -/
theorem mem_slots_of_slot {p : Pool} {n : Nat} {r : Slot} (h : p.slot n = some r) :
    some r ∈ p.slots := by
  rw [Pool.slot, List.getD_eq_getElem?_getD] at h
  cases hget : p.slots[n]? with
  | none => rw [hget] at h; cases h
  | some o =>
    rw [hget] at h
    obtain rfl : o = some r := h
    exact List.mem_of_getElem? hget

/-- The answers of GRADE QUERY, by slot and part (R60). -/
theorem gradeQuery_answers (n : Nat) (part : Byte) (p : Nat) (s : State) :
    (s.pool.slot n = none → gradeQuery n part p s = (s, refuse .notFound)) ∧
    ∀ r, s.pool.slot n = some r →
      (part = 0 → gradeQuery n part p s = (s, some (.done, primaryReply r))) ∧
      (part = 1 → ∀ v, r.grade.vectors[p]? = some v →
        gradeQuery n part p s = (s, some (.done, vectorReply p v))) ∧
      (part = 1 → r.grade.vectors.length ≤ p → gradeQuery n part p s = (s, refuse .notFound)) ∧
      (part ≠ 0 → part ≠ 1 → gradeQuery n part p s = (s, refuse .notFound)) := by
  refine ⟨fun h => ?_, fun r h => ⟨?_, ?_, ?_, ?_⟩⟩
  · rw [gradeQuery, h]
  · rintro rfl
    rw [gradeQuery, h]
    rfl
  · rintro rfl v hv
    rw [gradeQuery, h]
    dsimp only
    rw [if_neg (by decide), if_pos rfl, hv]
  · rintro rfl hlength
    rw [gradeQuery, h]
    dsimp only
    rw [if_neg (by decide), if_pos rfl, List.getElem?_eq_none hlength]
  · intro h0 h1
    rw [gradeQuery, h]
    dsimp only
    rw [if_neg h0, if_neg h1]

/-! ## PORT READ -/

/-- No port's contents are longer than a reply holds (R193). -/
theorem State.portContents_exists {s : State} {n : Nat} (h : n < 16) (hroster : s.roster.length = 15) :
    ∃ d, s.portContents n = some d ∧ d.length ≤ 21 := by
  have hnat : ∀ k, (natBytes k).length = 2 := fun _ => rfl
  have hword : ∀ w, (bytesOf16 w).length = 2 := fun _ => rfl
  have hoption : ∀ {α : Type} (w : Nat) (f : α → List Byte) (o : Option α),
      (∀ a, (f a).length ≤ w) → (optionBytes w f o).length ≤ w + 1 := by
    intro α w f o hf
    cases o with
    | none => simp [optionBytes]
    | some a => simpa [optionBytes] using hf a
  have hrow : ∀ row : RGB Int, (rowBytes row).length = 6 := fun _ => rfl
  have hbins : ∀ k, (histogramBytes k s.detector.reference).length ≤ 19 := by
    intro k
    refine hoption 18 _ _ fun q => ?_
    have hwords : ∀ l : List Nat, (l.flatMap natBytes).length = 2 * l.length := by
      intro l
      simp [List.length_flatMap, hnat]
      omega
    rw [List.length_append, hwords, hnat]
    have := List.length_take_le 8 (q.bins.drop k)
    omega
  have hreel := hoption 4 (fun q : Reel => natBytes q.id ++ natBytes q.length) s.follower.reel
    fun _ => Nat.le_refl _
  have hframe := hoption 2 (fun c : CurrentFrame => natBytes c.frame) s.follower.current
    fun _ => Nat.le_refl _
  have hmeasure := hoption 4 (fun m : Measure => natBytes m.value ++ natBytes m.frame)
    s.detector.measure fun _ => Nat.le_refl _
  unfold State.portContents
  split
  case h_17 => grind
  all_goals refine ⟨_, rfl, ?_⟩
  case h_12 => exact (hbins 0).trans (by decide)
  case h_13 => exact (hbins 8).trans (by decide)
  case h_14 => exact hmeasure.trans (by decide)
  all_goals simp [hnat, hword, hrow, hroster] <;> omega

/-- The answer of PORT READ (R193). -/
theorem portRead_answers (port : Byte) (s : State) :
    (s.portContents port.toNat = none → portRead port s = (s, refuse .notFound)) ∧
    ∀ d, s.portContents port.toNat = some d → portRead port s = (s, some (.done, port :: d)) := by
  refine ⟨fun h => ?_, fun d h => ?_⟩ <;> rw [portRead, h]

/-- No port stands at 16 or above (R193). -/
theorem State.portContents_beyond {s : State} {n : Nat} (h : 16 ≤ n) : s.portContents n = none := by
  unfold State.portContents
  split
  case h_17 => rfl
  all_goals omega

/-- The allocated slots of 1..127 (port 3). -/
theorem Pool.count_eq {p : Pool} (h : p.slots.length = 128) :
    p.count = ((List.range 127).filter (fun n => (p.slot (n + 1)).isSome)).length := by
  have hdrop : p.slots.drop 1 = (List.range 127).map fun n => p.slot (n + 1) := by
    refine List.ext_getElem (by simp [h]) fun i hi hi' => ?_
    have hlt : i + 1 < p.slots.length := by
      rw [List.length_map, List.length_range] at hi'
      omega
    simp [Pool.slot, List.getElem?_eq_getElem hlt]
  rw [Pool.count, hdrop, List.filter_map, List.length_map]
  rfl

/-- Eight bins of the reference (ports 11 and 12). -/
theorem take_drop_eq_range {l : List Nat} {first : Nat} (h : first + 8 ≤ l.length) :
    (l.drop first).take 8 = (List.range 8).map fun j => l.getD (first + j) 0 := by
  refine List.ext_getElem (by simp; omega) fun i hi hi' => ?_
  have hlt : first + i < l.length := by
    rw [List.length_map, List.length_range] at hi'
    omega
  simp [List.getElem?_eq_getElem hlt]

/-- The roster from 0 to 14 (port 15). -/
theorem roster_eq_range {s : State} (h : s.roster.length = 15) :
    s.roster = (List.range 15).map fun n => s.role (BitVec.ofNat 4 n) := by
  refine List.ext_getElem (by simp [h]) fun i hi hi' => ?_
  have hlt : i % 16 = i := by omega
  simp [State.role, hlt, List.getElem?_eq_getElem hi]

/-- The flags of port 4 in their order (R170, R192). -/
theorem State.enables_word (s : State) : (s.enables.setWidth 16).toNat < 1024 ∧
    (∀ l : Latch, (s.enables.setWidth 16).getLsbD l.index = s.reports l) ∧
    (s.enables.setWidth 16).getLsbD 8 = s.reportsCut ∧
    (s.enables.setWidth 16).getLsbD 9 = s.reportsSceneEntered := by
  refine ⟨?_, fun l => ?_, ?_, ?_⟩
  · have hlt := s.enables.isLt
    rw [BitVec.toNat_setWidth]
    omega
  · have hindex := l.index_lt
    rw [BitVec.getLsbD_setWidth, decide_eq_true (by omega), Bool.true_and]
    rfl
  · rw [BitVec.getLsbD_setWidth, decide_eq_true (by decide), Bool.true_and]
    rfl
  · rw [BitVec.getLsbD_setWidth, decide_eq_true (by decide), Bool.true_and]
    rfl

/-- The hold causes in one byte (port 0). -/
theorem Follower.causes_eq (f : Follower) :
    f.causes = (if f.holdConsole then 1 else 0) + (if f.holdCoast then 2 else 0) := by
  unfold Follower.causes
  cases f.holdConsole <;> cases f.holdCoast <;> rfl

/-- Eight bins of the reference (ports 11 and 12). -/
theorem histogramBytes_some {first : Nat} {q : Reference} (h : first + 8 ≤ q.bins.length) :
    histogramBytes first (some q) = 1 :: (natBytes q.frame ++
      (List.range 8).flatMap (fun j => natBytes (q.bins.getD (first + j) 0))) := by
  rw [histogramBytes, optionBytes, take_drop_eq_range h, List.flatMap_map]

/-- Settles O49: each query's answers by its modes, parts and ports, with their bytes as the tables lay them out. -/
theorem queriesChangeNothing : Obligations.QueriesChangeNothing := by
  unfold Obligations.QueriesChangeNothing
  refine ⟨?scene, ?grade, ?port⟩
  case scene =>
    intro src dst mode arg s c i data haccepted hsound
    have hexec := fun {t r data} => serveRequest_answers (t := t) (r := r) (data := data)
      (owner := sceneQuery mode arg.toNat) haccepted
    have hdata : ∀ p r, sceneData s.scenes p r = data p r := by
      intro p r
      have hnext : optionBytes 2 (fun x : Scene => natBytes x.start) (s.scenes[p + 1]?) =
          match s.scenes[p + 1]? with
          | some next => 1 :: natBytes next.start
          | none => [0, 0, 0] := by
        cases s.scenes[p + 1]? <;> rfl
      have htrans : r.trans.code = if r.trans = .cut then 0 else 1 := by cases r.trans <;> rfl
      have horigin : r.origin.bytes = match r.origin with
          | .console => [0, 0]
          | .detector => [1, 0]
          | .peer station => [2, byteOf station.toNat] := by
        cases r.origin with
        | peer n => exact congrArg (fun b => [2, b]) (setWidth_station n)
        | console => rfl
        | detector => rfl
      rw [sceneData, hnext, htrans, horigin]
      rfl
    obtain ⟨hbeyond, hframe, hposition, hnone, hmode⟩ :=
      sceneQuery_answers mode arg.toNat (served s)
    refine ⟨fun h0 h => hexec (hbeyond h0 h), fun h0 h => ?_, fun h1 r hr => ?_,
      fun h1 h => hexec (hnone h1 h), fun h0 h1 => hexec (hmode h0 h1)⟩
    · have hok := tableOk_of_scenesSound hsound
      have hs : Sorted s.scenes := hok.2.2.1
      obtain ⟨before, after, hsplit, hafter⟩ := sceneOf_split hs (tableOk_head hok) arg.toNat
      have hplace : positionOf s.scenes (sceneOf s.scenes arg.toNat).start = before.length := by
        generalize sceneOf s.scenes arg.toNat = r at hsplit
        rw [hsplit] at hs ⊢
        exact positionOf_split hs
      refine ⟨_, before, after, hsplit, (sceneOf_mem (tableOk_head hok) _).2, hafter, ?_⟩
      have hanswer := hexec (hframe h0 h)
      have hscenes : (served s).scenes = s.scenes := rfl
      rwa [hscenes, hplace, hdata] at hanswer
    · have hanswer := hexec (hposition h1 r hr)
      have hscenes : (served s).scenes = s.scenes := rfl
      rwa [hscenes, hdata] at hanswer
  case grade =>
    intro src dst slot part position s c i pair haccepted hsound
    have hexec := fun {t r data} => serveRequest_answers (t := t) (r := r) (data := data)
      (owner := gradeQuery slot.toNat part position.toNat) haccepted
    obtain ⟨hfree, hanswers⟩ := gradeQuery_answers slot.toNat part position.toNat (served s)
    refine ⟨fun h => hexec (hfree h), fun r hr => ?_⟩
    obtain ⟨hprimary, hvector, hnone, hpart⟩ := hanswers r hr
    refine ⟨fun h0 => ⟨fun k => intBytes k.lift ++ natBytes k.gain ++ [byteOf k.curve],
      fun _ => rfl, ?_⟩, fun h1 v hv => ?_, fun h1 h => hexec (hnone h1 h),
      fun h0 h1 => hexec (hpart h0 h1)⟩
    · have hreply : primaryReply r = [0] ++
          (intBytes r.grade.primary.r.lift ++ natBytes r.grade.primary.r.gain ++
            [byteOf r.grade.primary.r.curve]) ++
          (intBytes r.grade.primary.g.lift ++ natBytes r.grade.primary.g.gain ++
            [byteOf r.grade.primary.g.curve]) ++
          (intBytes r.grade.primary.b.lift ++ natBytes r.grade.primary.b.gain ++
            [byteOf r.grade.primary.b.curve]) ++
          natBytes r.refs ++ [byteOf r.grade.vectors.length] := by
        simp [primaryReply, primaryBytes, RGB.toList]
      rw [← hreply]
      exact hexec (hprimary h0)
    · obtain ⟨hslots, -⟩ := hsound
      obtain ⟨-, hcount, hvectors⟩ := hslots _ (mem_slots_of_slot hr) r rfl
      obtain ⟨hlt, -⟩ := List.getElem?_eq_some_iff.mp hv
      obtain ⟨first, coordinates, hrect, heq⟩ := vectorReply_eq
        (hvectors v (List.mem_of_getElem? hv)) (by omega : position.toNat < 8) pair fun _ _ => rfl
      refine ⟨first, coordinates, hrect, ?_⟩
      rw [← heq]
      exact hexec (hvector h1 v hv)
  case port =>
    intro src dst port s c i row mode flag histogram haccepted hpool hroster hdetector
    have hexec := fun {t r data} => serveRequest_answers (t := t) (r := r) (data := data)
      (owner := portRead port) haccepted
    obtain ⟨hnone, hsome⟩ := portRead_answers port (served s)
    refine ⟨fun h => hexec (hnone (State.portContents_beyond h)), fun h => ?_⟩
    obtain ⟨d, hd, hlength⟩ := State.portContents_exists (s := served s) h hroster.1
    have hcontents : ∀ {n : Byte} {e : List Byte}, port = n →
        (served s).portContents n.toNat = some e → d = e := by
      rintro n e rfl he
      exact Option.some.inj (hd.symm.trans he)
    refine ⟨d, hlength, hexec (hsome d hd), fun hp => ?state, fun hp => ?frame,
      fun hp => hcontents hp rfl, fun hp => ?counts, fun hp => ?enables, fun hp => ?film,
      fun hp => ?red, fun hp => ?green, fun hp => ?blue, fun hp => hcontents hp rfl,
      fun hp => hcontents hp rfl, fun hp => ?low, fun hp => ?high, fun hp => ?measure,
      fun hp => ?straps, fun hp => ?roster⟩
    all_goals rw [hcontents hp rfl]
    case state =>
      rw [Follower.causes_eq]
      change [s.engineState.code, _, _, _] ++ optionBytes 4 _ s.follower.reel = _
      cases s.engineState <;> cases s.follower.reel <;> rfl
    case frame =>
      change optionBytes 2 _ s.follower.current ++ _ ++ _ ++ _ ++ _ = _
      cases s.follower.current <;> rfl
    case counts =>
      rw [← Pool.count_eq hpool.1]
      rfl
    case enables => exact ⟨_, rfl, s.enables_word⟩
    case film =>
      have hmode : ∀ m : FilmMode, m.code = mode m := by
        intro m
        cases m <;> rfl
      rw [← hmode, ← hmode]
      rfl
    case red => simp [rowBytes, RGB.toList, row, served]
    case green => simp [rowBytes, RGB.toList, row, served]
    case blue => simp [rowBytes, RGB.toList, row, served]
    case low =>
      change histogramBytes 0 s.detector.reference = _
      simp only [histogram]
      cases href : s.detector.reference with
      | none => rfl
      | some q =>
        refine histogramBytes_some ?_
        rw [(hdetector.2.1 q href).1]
        decide
    case high =>
      change histogramBytes 8 s.detector.reference = _
      simp only [histogram]
      cases href : s.detector.reference with
      | none => rfl
      | some q =>
        refine histogramBytes_some ?_
        rw [(hdetector.2.1 q href).1]
    case measure =>
      change optionBytes 4 _ s.detector.measure = _
      cases s.detector.measure <;> rfl
    case straps =>
      have hstandard : s.straps.standard.code = if s.straps.standard = .s525 then 0 else 1 := by
        cases s.straps.standard <;> rfl
      rw [← hstandard, ← setWidth_station]
      rfl
    case roster =>
      have hcode : roleCode = fun r => match r with
          | none => 0 | some .transport => 1 | some .scanner => 2 | some .recorder => 3
          | some .console => 4 | some .engine => 5 | some .other => 6 := by
        funext r
        rcases r with _ | r
        · rfl
        · cases r <;> rfl
      have hnames : s.roster.map roleCode =
          (List.range 15).map fun n => roleCode (s.role (BitVec.ofNat 4 n)) := by
        conv_lhs => rw [roster_eq_range hroster.1, List.map_map]
        rfl
      exact hnames.trans (congrArg
        (fun f => (List.range 15).map fun n => f (s.role (BitVec.ofNat 4 n))) hcode)

end Sys2Proof.Machine

/-! The scene requests (Chapter 4): SCENE MARK, SET, CLEAR and PURGE, and a peer's cut (Sections 4.2 to 4.10, 8.6). -/

namespace Sys2Proof.Machine

open Safety

/-! ## Counts that come back -/

/-- Two pools of one length with the same slots are one. -/
theorem Pool.ext_slot {p q : Pool} (hlength : q.slots.length = p.slots.length)
    (h : ∀ n, q.slot n = p.slot n) : q = p := by
  obtain ⟨ps⟩ := p
  obtain ⟨qs⟩ := q
  refine congrArg Pool.mk (List.ext_getElem hlength fun n hq hp => ?_)
  have hn := h n
  rwa [Pool.slot, Pool.slot, List.getD_eq_getElem _ _ hq, List.getD_eq_getElem _ _ hp] at hn

/-- A pool of which only counts changed, and the count of every allocated slot came back, is the pool it was (R49). -/
theorem Pool.Recounted.eq {p q : Pool} (h : p.Recounted q)
    (hrefs : ∀ n, n ≠ 0 → p.slot n ≠ none → q.refs n = p.refs n) : q = p := by
  refine Pool.ext_slot h.length fun n => ?_
  by_cases h0 : n = 0
  · exact h0 ▸ h.zero
  have hgrade := h.grade n
  cases hp : p.slot n with
  | none => exact h.slot_eq_none.mpr hp
  | some r =>
    have halloc : p.slot n ≠ none := hp ▸ Option.some_ne_none r
    have hcount := hrefs n h0 halloc
    obtain ⟨x, hx⟩ := Option.ne_none_iff_exists'.mp (mt h.slot_eq_none.mp halloc)
    rw [Pool.refs_of_slot hp, Pool.refs_of_slot hx] at hcount
    rw [hp, hx] at hgrade
    have hrecord : x.grade = r.grade := Option.some.inj hgrade
    obtain ⟨g, k⟩ := x
    obtain ⟨g', k'⟩ := r
    obtain rfl : g = g' := hrecord
    obtain rfl : k = k' := hcount
    exact hx

/-- A claim raises the count of the slot it names, when that is allocated (R49). -/
theorem Pool.refs_claim_of {p : Pool} {n m : Nat} (h0 : n ≠ 0) (halloc : p.slot n ≠ none) :
    (p.claim m).refs n = p.refs n + if m = n then 1 else 0 := by
  by_cases h : m = n
  · exact Pool.refs_claim (h ▸ halloc) h0
  · rw [Pool.claim, Pool.refs_recount, if_neg (fun hm => h hm.1.symm), if_neg h, Nat.add_zero]

/-- A claim that is released again leaves the pool as it was (R49). -/
theorem Pool.release_claim (p : Pool) (n : Nat) : (p.claim n).release n = p := by
  refine (Pool.recounted_claim.trans Pool.recounted_release).eq fun m h0 halloc => ?_
  rw [Pool.refs_release h0, Pool.refs_claim_of h0 halloc]
  omega

/-! ## What the edits of the table do -/

section
variable {s : State} {r new : Scene}

/-- A count of references gives no slot another grade. -/
theorem gradeOf_recounted {t : State} (h : s.pool.Recounted t.pool) (n : Nat) :
    gradeOf t n = gradeOf s n := h.grade n

/-- Everything that inserting a record does (R64, R73, R81, R87). -/
theorem insertRecord_effects (hpool : PoolSound s) (hs : Sorted s.scenes)
    (hfree : sceneAt s.scenes r.start = none) (halloc : s.pool.slot r.slot ≠ none) :
    Sorted (s.insertRecord r).scenes ∧
    (∀ x, x ∈ (s.insertRecord r).scenes ↔ x = r ∨ x ∈ s.scenes) ∧
    Pushed (.sceneInserted r.start) s (s.insertRecord r) ∧ PoolSound (s.insertRecord r) ∧
    (∀ n, gradeOf (s.insertRecord r) n = gradeOf s n) ∧
    { s.insertRecord r with scenes := s.scenes, history := s.history, pool := s.pool } = s := by
  have hscenes : (s.insertRecord r).scenes = insertScene r s.scenes := by simp [State.insertRecord]
  refine ⟨?_, fun x => ?_, State.push_pushed _, poolSound_insertRecord hpool hs hfree halloc,
    gradeOf_recounted ((State.recounted_push _).trans Pool.recounted_claim), ?_⟩
  · exact hscenes ▸ sorted_insertScene hs r
  · rw [hscenes]
    exact mem_insertScene (sceneAt_none.mp hfree)
  · rw [State.insertRecord_eq]

/-- Everything that changing a record does (R75, R87). -/
theorem setRecord_effects (hpool : PoolSound s) (hs : Sorted s.scenes) (hr : r ∈ s.scenes)
    (hstart : new.start = r.start) (halloc : s.pool.slot new.slot ≠ none) :
    ((s.push (.sceneChanged r)).changeRecord r new).scenes =
      s.scenes.map (fun x => if x = r then new else x) ∧
    Pushed (.sceneChanged r) s ((s.push (.sceneChanged r)).changeRecord r new) ∧
    PoolSound ((s.push (.sceneChanged r)).changeRecord r new) ∧
    (∀ n, gradeOf ((s.push (.sceneChanged r)).changeRecord r new) n = gradeOf s n) ∧
    { (s.push (.sceneChanged r)).changeRecord r new with
      scenes := s.scenes, history := s.history, pool := s.pool } = s := by
  refine ⟨?_, State.push_pushed _, poolSound_set hpool hs hr hstart halloc,
    gradeOf_recounted ((State.recounted_push _).trans
      (Pool.recounted_claim.trans Pool.recounted_release)), ?_⟩
  · simp only [State.changeRecord_fields, State.push_fields, replaceScene]
    refine List.map_congr_left fun x hx => ?_
    have hsame : x.start = new.start ↔ x = r :=
      ⟨fun h => eq_of_start_eq hs hx hr (h.trans hstart), fun h => h ▸ hstart.symm⟩
    simp only [hsame]
  · rw [State.changeRecord, State.push_eq]

/-- Everything that clearing a record does (R74, R87). -/
theorem clearRecord_effects (hpool : PoolSound s) (hs : Sorted s.scenes) (hr : r ∈ s.scenes) :
    (s.clearRecord r).scenes = s.scenes.filter (fun x => x ≠ r) ∧
    Pushed (.sceneRemoved r) s (s.clearRecord r) ∧ PoolSound (s.clearRecord r) ∧
    (∀ n, gradeOf (s.clearRecord r) n = gradeOf s n) ∧
    (s.history.entries.length < 16 → (s.clearRecord r).pool = s.pool) ∧
    { s.clearRecord r with scenes := s.scenes, history := s.history, pool := s.pool } = s := by
  refine ⟨?_, State.push_pushed _, poolSound_clearRecord hpool hs hr,
    gradeOf_recounted ((State.recounted_push _).trans Pool.recounted_release), fun hroom => ?_, ?_⟩
  · refine List.filter_congr fun x hx => ?_
    have hsame : x.start = r.start ↔ x = r :=
      ⟨fun h => eq_of_start_eq hs hx hr h, fun h => h ▸ rfl⟩
    rw [Bool.eq_iff_iff]
    simp [hsame]
  · have hkept : s.discardOldest = s := by
      rcases State.discardOldest_cases (s := s) with ⟨-, heq⟩ | ⟨-, -, -, hfull, -⟩
      · exact heq
      · omega
    rw [State.clearRecord, State.push_eq_append, hkept]
    exact Pool.release_claim _ _
  · rw [State.clearRecord, State.push_eq]

end

/-! ## The tests of Table 4-4 -/

/-- The tests of the reel come first: no reel held, then a frame beyond it (R70). -/
theorem refused_or_within {i : Instr} {c : Cue} {f : Nat} {owner : State → State × Answer}
    {s : State} {rest : Prop}
    (hexec : ∀ {t r data}, owner (served s) = (t, some (r, data)) →
      exec i s = .next (answered c r data t))
    (hnone : (served s).reelTest f = .noReel → owner (served s) = (served s, refuse .noReel))
    (hout : (served s).reelTest f = .outOfReel → owner (served s) = (served s, refuse .outOfReel))
    (hrest : (served s).reelTest f = .within → rest) :
    if s.follower.reel = none then RefusedWith i c .noReel s
    else if ∀ q ∈ s.follower.reel, q.length ≤ f then RefusedWith i c .outOfReel s
    else rest := by
  have hreel : (served s).follower.reel = s.follower.reel := rfl
  unfold State.reelTest at hnone hout hrest
  rw [hreel] at hnone hout hrest
  cases hq : s.follower.reel with
  | none =>
    rw [hq] at hnone
    rw [if_pos rfl]
    exact hexec (hnone rfl)
  | some q =>
    rw [hq] at hout hrest
    rw [if_neg (Option.some_ne_none q)]
    by_cases hbeyond : q.length ≤ f
    · rw [if_pos (fun x hx => Option.mem_some.mp hx ▸ hbeyond)]
      exact hexec (hout (if_pos hbeyond))
    · rw [if_neg (fun h => hbeyond (h q rfl))]
      exact hrest (if_neg hbeyond)

/-- A grade field names an allocated slot or stands for SAME, or it names nothing (R71). -/
theorem State.gradeNamed_eq (s : State) (same : Nat) (grade : Byte) : s.gradeNamed same grade =
    if grade ≠ 0xFF ∧ s.pool.slot grade.toNat = none then none
    else some (if grade = 0xFF then same else grade.toNat) := by
  unfold State.gradeNamed
  by_cases hsame : grade = 0xFF
  · rw [if_pos hsame, if_pos hsame, if_neg (fun h => h.1 hsame)]
  · rw [if_neg hsame, if_neg hsame, Pool.allocated]
    cases hslot : s.pool.slot grade.toNat with
    | none => exact (if_pos (c := grade ≠ 0xFF ∧ (none : Option Slot) = none) ⟨hsame, rfl⟩).symm
    | some r => exact (if_neg (c := grade ≠ 0xFF ∧ some r = none) (fun h => nomatch h.2)).symm

/-- The transitions that a byte names (R71). -/
theorem Transition.ofByte_eq (b : Byte) : Transition.ofByte b =
    if b ≠ 0 ∧ b ≠ 1 then none else some (if b = 0 then .cut else .dissolve) := by
  unfold Transition.ofByte
  by_cases h0 : b = 0
  · rw [if_pos h0, if_pos h0, if_neg (fun h => h.1 h0)]
  · rw [if_neg h0, if_neg h0]
    by_cases h1 : b = 1
    · rw [if_pos h1, if_neg (fun h => h.2 h1)]
    · rw [if_neg h1, if_pos ⟨h0, h1⟩]

/-- The values clamped of a dissolve length, as the reply counts them (R71). -/
theorem dissolveClamped_answer (len : Byte) :
    doneBy (dissolveClamped len) =
      (if 1 ≤ len.toNat ∧ len.toNat ≤ 63 then .done else .doneClamped) ∧
    byteOf (dissolveClamped len) = if 1 ≤ len.toNat ∧ len.toNat ≤ 63 then 0 else 1 := by
  refine ⟨doneBy_clampedNat 1 63 len.toNat, ?_⟩
  unfold dissolveClamped clampedNat
  by_cases h : 1 ≤ len.toNat ∧ len.toNat ≤ 63
  · rw [if_pos h, if_neg (by omega)]
    rfl
  · rw [if_neg h, if_pos (by omega)]
    rfl

/-- The number of records before a frame (R64). -/
theorem positionOf_eq_countP (t : List Scene) (f : Nat) :
    positionOf t f = t.countP (fun r => r.start < f) := List.countP_eq_length_filter.symm

/-- A record that takes its place stands behind those before it (R64). -/
theorem positionOf_insertScene {t : List Scene} {r : Scene} (hs : Sorted t)
    (hfree : ∀ x ∈ t, x.start ≠ r.start) :
    positionOf (insertScene r t) r.start = t.countP (fun x => x.start < r.start) := by
  rw [positionOf_eq_countP, (insertScene_perm hs hfree).countP_eq, List.countP_cons_of_neg]
  simp

/-- The slot that SAME stands for, or that a grade field names, is allocated. -/
theorem slot_of_named {s : State} {same : Nat} {grade : Byte} (hsame : s.pool.slot same ≠ none)
    (h : ¬ (grade ≠ 0xFF ∧ s.pool.slot grade.toNat = none)) :
    s.pool.slot (if grade = 0xFF then same else grade.toNat) ≠ none := by
  split
  next => exact hsame
  next hne => exact fun hfree => h ⟨hne, hfree⟩

/-! ## SCENE MARK -/

section
variable {s : State} {f : Nat} {grade trans len : Byte}

/-- Within the reel, SCENE MARK answers the first test of Table 4-4 that fails (R72). -/
theorem sceneMark_refused (hin : s.reelTest f = .within) :
    ((sceneAt s.scenes f).isSome = true → sceneMark f grade trans len s = (s, refuse .exists)) ∧
    ((sceneAt s.scenes f).isSome = false →
      (grade ≠ 0xFF ∧ s.pool.slot grade.toNat = none) ∨ (trans ≠ 0 ∧ trans ≠ 1) →
      sceneMark f grade trans len s = (s, refuse .notFound)) ∧
    ((sceneAt s.scenes f).isSome = false →
      ¬ ((grade ≠ 0xFF ∧ s.pool.slot grade.toNat = none) ∨ (trans ≠ 0 ∧ trans ≠ 1)) →
      scenesFull s.scenes = true → sceneMark f grade trans len s = (s, refuse .full)) := by
  refine ⟨fun hthere => ?_, fun hfree hnamed => ?_, fun hfree hnamed hfull => ?_⟩
  · rw [sceneMark, hin]
    exact if_pos hthere
  · rw [sceneMark, hin, State.gradeNamed_eq, Transition.ofByte_eq]
    dsimp only
    rw [if_neg (Bool.eq_false_iff.mp hfree)]
    by_cases hgrade : grade ≠ 0xFF ∧ s.pool.slot grade.toNat = none
    · rw [if_pos hgrade]
    · rw [if_neg hgrade, if_pos (hnamed.resolve_left hgrade)]
  · obtain ⟨hgrade, htrans⟩ := not_or.mp hnamed
    rw [sceneMark, hin, State.gradeNamed_eq, Transition.ofByte_eq, if_neg hgrade, if_neg htrans]
    dsimp only
    rw [if_neg (Bool.eq_false_iff.mp hfree), if_pos hfull]

/-- A taken SCENE MARK inserts the record and answers with its place (R73). -/
theorem sceneMark_taken (hin : s.reelTest f = .within) (hs : Sorted s.scenes)
    (hfree : sceneAt s.scenes f = none)
    (hnamed : ¬ ((grade ≠ 0xFF ∧ s.pool.slot grade.toNat = none) ∨ (trans ≠ 0 ∧ trans ≠ 1)))
    (hroom : scenesFull s.scenes = false) {n : Nat} {r : Scene}
    (hn : n = if grade = 0xFF then (sceneOf s.scenes f).slot else grade.toNat)
    (hr : r = ⟨f, n, if trans = 0 then .cut else .dissolve, max 1 (min 63 len.toNat), .console, true⟩) :
    sceneMark f grade trans len s = (s.insertRecord r,
      some (if 1 ≤ len.toNat ∧ len.toNat ≤ 63 then .done else .doneClamped,
        [byteOf (s.scenes.countP (fun x => x.start < f))] ++ natBytes (s.scenes.length + 1) ++
        [byteOf n, if 1 ≤ len.toNat ∧ len.toNat ≤ 63 then 0 else 1])) := by
  obtain ⟨hgrade, htrans⟩ := not_or.mp hnamed
  obtain ⟨hdone, hclamped⟩ := dissolveClamped_answer len
  have hstart : r.start = f := by rw [hr]
  have hempty : ∀ x ∈ s.scenes, x.start ≠ r.start := hstart ▸ sceneAt_none.mp hfree
  have hscenes : (s.insertRecord r).scenes = insertScene r s.scenes := by simp [State.insertRecord]
  have hplace : positionOf (s.insertRecord r).scenes f = s.scenes.countP (fun x => x.start < f) := by
    rw [hscenes, ← hstart]
    exact positionOf_insertScene hs hempty
  have hlength : (s.insertRecord r).scenes.length = s.scenes.length + 1 := by
    rw [hscenes]
    exact length_insertScene hs hempty
  rw [← hplace, ← hlength, ← hdone, ← hclamped, hr, hn, ← dissolveLength_eq, sceneMark, hin,
    State.gradeNamed_eq, Transition.ofByte_eq, if_neg hgrade, if_neg htrans, hfree]
  dsimp only [Option.isSome_none]
  rw [if_neg Bool.false_ne_true, if_neg (Bool.eq_false_iff.mp hroom)]

end

/-- Settles O46: the tests of Table 4-4 in their order, and what inserting a record does. -/
theorem sceneMarkService : Obligations.SceneMark := by
  unfold Obligations.SceneMark
  intro src dst frame grade trans len s c i haccepted hscenes hpool
  have hexec := fun {t r data} => serveRequest_answers (t := t) (r := r) (data := data)
    (owner := sceneMark frame.toNat grade trans len) haccepted
  have hok := tableOk_of_scenesSound hscenes
  have hs : Sorted s.scenes := hok.2.2.1
  refine refused_or_within hexec (fun h => by rw [sceneMark, h]) (fun h => by rw [sceneMark, h])
    fun hin => ?_
  obtain ⟨hexists, hnothing, hfull⟩ :=
    sceneMark_refused (grade := grade) (trans := trans) (len := len) hin
  split
  next hthere =>
    refine hexec (hexists ?_)
    rw [Option.isSome_iff_ne_none, Ne, sceneAt_none]
    exact fun hnone => hthere.elim fun r hr => hnone r hr.1 hr.2
  next hfree =>
    have hfree : sceneAt s.scenes frame.toNat = none :=
      sceneAt_none.mpr fun r hr hstart => hfree ⟨r, hr, hstart⟩
    have hfree' : (sceneAt (served s).scenes frame.toNat).isSome = false :=
      Option.isSome_eq_false_iff.mpr (Option.isNone_iff_eq_none.mpr hfree)
    split
    next hnamed => exact hexec (hnothing hfree' hnamed)
    next hnamed =>
      split
      next hlength =>
        exact hexec (hfull hfree' hnamed (decide_eq_true (Nat.le_of_eq hlength.symm)))
      next hlength =>
        have hroom : scenesFull (served s).scenes = false :=
          scenesFull_eq_false.mpr (Nat.lt_of_le_of_ne hok.1 hlength)
        have hsplit := slot_of_scene hpool (sceneOf_mem (tableOk_head hok) frame.toNat).1
        exact ⟨_, _, _, rfl, rfl, hexec (sceneMark_taken hin hs hfree hnamed hroom rfl rfl),
          insertRecord_effects (s := served s) hpool hs hfree
            (slot_of_named hsplit (not_or.mp hnamed).1)⟩

end Sys2Proof.Machine

/-! SCENE SET, CLEAR and PURGE, and a peer's cut (Sections 4.5, 4.6, 4.8, 4.10, 8.6). -/

namespace Sys2Proof.Machine

open Safety

/-! ## SCENE SET -/

section
variable {s : State} {f : Nat} {grade trans len confirm : Byte} {r : Scene}

/-- Where no record starts there is none to change (R75). -/
theorem sceneSet_nothing (hin : s.reelTest f = .within) (hfree : sceneAt s.scenes f = none) :
    sceneSet f grade trans len confirm s = (s, refuse .notFound) := by
  rw [sceneSet, hin, hfree]

/-- A grade, transition or confirm field that names nothing is refused (R75). -/
theorem sceneSet_unnamed (hin : s.reelTest f = .within) (hr : sceneAt s.scenes f = some r)
    (hnamed : (grade ≠ 0xFF ∧ s.pool.slot grade.toNat = none) ∨ (trans ≠ 0 ∧ trans ≠ 1) ∨
      (confirm ≠ 0 ∧ confirm ≠ 1)) :
    sceneSet f grade trans len confirm s = (s, refuse .notFound) := by
  rw [sceneSet, hin, hr]
  dsimp only
  rw [State.gradeNamed_eq, Transition.ofByte_eq]
  by_cases hgrade : grade ≠ 0xFF ∧ s.pool.slot grade.toNat = none
  · rw [if_pos hgrade]
  · rw [if_neg hgrade]
    by_cases htrans : trans ≠ 0 ∧ trans ≠ 1
    · rw [if_pos htrans]
    · rw [if_neg htrans]
      exact if_pos ((hnamed.resolve_left hgrade).resolve_left htrans)

/-- A taken SCENE SET changes the record and answers with its place (R75, R76). -/
theorem sceneSet_taken (hin : s.reelTest f = .within) (hr : sceneAt s.scenes f = some r)
    (hnamed : ¬ ((grade ≠ 0xFF ∧ s.pool.slot grade.toNat = none) ∨ (trans ≠ 0 ∧ trans ≠ 1) ∨
      (confirm ≠ 0 ∧ confirm ≠ 1))) {new : Scene}
    (hnew : new = ⟨r.start, if grade = 0xFF then r.slot else grade.toNat,
        if trans = 0 then .cut else .dissolve, max 1 (min 63 len.toNat), r.origin,
        r.confirmed || confirm == 1⟩) :
    sceneSet f grade trans len confirm s = ((s.push (.sceneChanged r)).changeRecord r new,
      some (if 1 ≤ len.toNat ∧ len.toNat ≤ 63 then .done else .doneClamped,
        [byteOf (s.scenes.countP (fun x => x.start < f)), byteOf new.slot,
          if new.confirmed then 1 else 0, if 1 ≤ len.toNat ∧ len.toNat ≤ 63 then 0 else 1])) := by
  obtain ⟨hgrade, hrest⟩ := not_or.mp hnamed
  obtain ⟨htrans, hconfirm⟩ := not_or.mp hrest
  obtain ⟨hdone, hclamped⟩ := dissolveClamped_answer len
  rw [← positionOf_eq_countP, ← hdone, ← hclamped, hnew, ← dissolveLength_eq, sceneSet, hin, hr]
  dsimp only
  rw [State.gradeNamed_eq, Transition.ofByte_eq, if_neg hgrade, if_neg htrans]
  dsimp only
  rw [if_neg hconfirm]
  rfl

end

/-- Settles O48: the tests in their order, and what changing a record does. -/
theorem sceneSetService : Obligations.SceneSet := by
  unfold Obligations.SceneSet
  intro src dst frame grade trans len confirm s c i haccepted hscenes hpool
  have hexec := fun {t r data} => serveRequest_answers (t := t) (r := r) (data := data)
    (owner := sceneSet frame.toNat grade trans len confirm) haccepted
  have hs : Sorted s.scenes := (tableOk_of_scenesSound hscenes).2.2.1
  refine refused_or_within hexec (fun h => by rw [sceneSet, h]) (fun h => by rw [sceneSet, h])
    fun hin => ?_
  split
  next hnone =>
    refine hexec (sceneSet_nothing hin (sceneAt_none.mpr fun r hr hstart => hnone ⟨r, hr, hstart⟩))
  next hthere =>
    obtain ⟨r, hr, hstart⟩ := not_not.mp hthere
    have hat : sceneAt (served s).scenes frame.toNat = some r := hstart ▸ sceneAt_of_mem hs hr
    split
    next hnamed => exact hexec (sceneSet_unnamed hin hat hnamed)
    next hnamed =>
      exact ⟨r, _, _, hr, hstart, rfl, hexec (sceneSet_taken hin hat hnamed rfl),
        setRecord_effects (s := served s) hpool hs hr rfl
          (slot_of_named (slot_of_scene hpool hr) (not_or.mp hnamed).1)⟩

/-! ## SCENE CLEAR and PURGE -/

section
variable {s : State} {f : Nat} {r : Scene}

/-- The head scene is not cleared (R74). -/
theorem sceneClear_head (hin : s.reelTest 0 = .within) :
    sceneClear 0 s = (s, refuse .readOnly) := by
  rw [sceneClear, hin]
  rfl

/-- Where no record starts there is none to clear (R74). -/
theorem sceneClear_nothing (hin : s.reelTest f = .within) (h0 : f ≠ 0)
    (hfree : sceneAt s.scenes f = none) : sceneClear f s = (s, refuse .notFound) := by
  rw [sceneClear, hin, hfree]
  exact if_neg h0

/-- A taken SCENE CLEAR clears the record and answers with its place (R74). -/
theorem sceneClear_taken (hin : s.reelTest f = .within) (h0 : f ≠ 0)
    (hr : sceneAt s.scenes f = some r) (hs : Sorted s.scenes) :
    sceneClear f s = (s.clearRecord r, some (.done,
      [byteOf (s.scenes.countP (fun x => x.start < f))] ++
        [byteOf (s.scenes.length - 1), byteOf r.slot])) := by
  obtain ⟨hmem, rfl⟩ := sceneAt_some hr
  have hscenes : (s.push (.sceneRemoved r)).scenes = s.scenes := by simp
  have hlength : (removeScene r.start s.scenes).length = s.scenes.length - 1 := by
    rw [(perm_removeScene hs hmem).length_eq, List.length_cons, Nat.add_sub_cancel]
  rw [sceneClear, hin, hr, ← hlength, ← positionOf_eq_countP]
  dsimp only
  rw [if_neg h0, hscenes]
  rfl

/-- Releases one after the other only count. -/
theorem Pool.recounted_foldl {α : Type} {f : Pool → α → Pool} (h : ∀ (p : Pool) a, p.Recounted (f p a))
    (as : List α) (p : Pool) : p.Recounted (as.foldl f p) := by
  induction as generalizing p with
  | nil => exact .refl p
  | cons a as ih => exact (h p a).trans (ih (f p a))

/-- Everything that a purge does (R78, R93). -/
theorem purge_effects (hpool : PoolSound s) :
    s.purgeScenes.purgeHistory.scenes = s.scenes.filter (fun r => r.confirmed) ∧
    s.purgeScenes.purgeHistory.history.entries = [] ∧
    s.purgeScenes.purgeHistory.history.complete =
      (s.history.complete && s.history.entries.isEmpty) ∧
    PoolSound s.purgeScenes.purgeHistory ∧
    (∀ n, gradeOf s.purgeScenes.purgeHistory n = gradeOf s n) ∧
    { s.purgeScenes.purgeHistory with
      scenes := s.scenes, history := s.history, pool := s.pool } = s := by
  have hrecounted : s.pool.Recounted s.purgeScenes.purgeHistory.pool :=
    (Pool.recounted_foldl (fun _ _ => Pool.recounted_release) _ _).trans
      (Pool.recounted_foldl (fun _ e => Pool.recounted_releaseEntry e) _ _)
  exact ⟨rfl, rfl, rfl, poolSound_purgeHistory (poolSound_purgeScenes hpool),
    gradeOf_recounted hrecounted, rfl⟩

/-- The answer of SCENE PURGE: the records removed and the records left (R78). -/
theorem scenePurge_taken (h : s.follower.reel ≠ none) :
    scenePurge s = (s.purgeScenes.purgeHistory, some (.done,
      [byteOf (s.scenes.countP (fun r => r.confirmed = false))] ++
        natBytes (s.scenes.countP (fun r => r.confirmed = true)))) := by
  obtain ⟨q, hq⟩ := Option.ne_none_iff_exists'.mp h
  have hleft : (s.purgeScenes.purgeHistory).scenes.length =
      s.scenes.countP (fun r => r.confirmed = true) := by
    rw [List.countP_eq_length_filter]
    simp
  have hgone : s.scenes.length - s.purgeScenes.purgeHistory.scenes.length =
      s.scenes.countP (fun r => r.confirmed = false) := by
    have hsplit := s.scenes.length_eq_countP_add_countP (fun r => r.confirmed)
    simp only [Bool.not_eq_true, Bool.decide_eq_true] at hsplit hleft ⊢
    omega
  rw [← hgone, ← hleft, scenePurge, hq]

end

/-- Settles O47: the tests of each request in their order, and what clearing a record and a purge do. -/
theorem sceneClearAndPurge : Obligations.SceneClearAndPurge := by
  unfold Obligations.SceneClearAndPurge
  refine ⟨?clear, ?purge⟩
  case clear =>
    intro src dst frame s c i haccepted hscenes hpool
    have hexec := fun {t r data} => serveRequest_answers (t := t) (r := r) (data := data)
      (owner := sceneClear frame.toNat) haccepted
    have hs : Sorted s.scenes := (tableOk_of_scenesSound hscenes).2.2.1
    refine refused_or_within hexec (fun h => by rw [sceneClear, h]) (fun h => by rw [sceneClear, h])
      fun hin => ?_
    split
    next hzero =>
      rw [hzero] at hin
      refine hexec ?_
      rw [hzero]
      exact sceneClear_head hin
    next hzero =>
      have h0 : frame.toNat ≠ 0 := mt toNat_eq_zero.mp hzero
      split
      next hnone =>
        exact hexec (sceneClear_nothing hin h0
          (sceneAt_none.mpr fun r hr hstart => hnone ⟨r, hr, hstart⟩))
      next hthere =>
        obtain ⟨r, hr, hstart⟩ := not_not.mp hthere
        have hat : sceneAt (served s).scenes frame.toNat = some r := hstart ▸ sceneAt_of_mem hs hr
        exact ⟨r, _, hr, hstart, hexec (sceneClear_taken hin h0 hat hs),
          clearRecord_effects (s := served s) hpool hs hr⟩
  case purge =>
    intro src dst s c i haccepted hscenes hpool
    have hexec := fun {t r data} => serveRequest_answers (t := t) (r := r) (data := data)
      (owner := scenePurge) haccepted
    split
    next hnone =>
      have hnone' : (served s).follower.reel = none := hnone
      refine hexec ?_
      rw [scenePurge, hnone']
      rfl
    next hreel =>
      exact ⟨_, hexec (scenePurge_taken (s := served s) hreel), purge_effects (s := served s) hpool⟩

/-! ## A peer's cut -/

section
variable {s : State} {src : Station} {reel frame : Nat}

/-- A CUT that fails a test does nothing (R149, R150). -/
theorem takePeerCut_failed (h : s.engineState = .rollcall ∨ s.role src ≠ some .engine ∨
      s.straps.peerCuts = false ∨ ∀ q ∈ s.follower.reel, q.id ≠ reel ∨ q.length ≤ frame) :
    s.takePeerCut src reel frame = s := by
  unfold State.takePeerCut
  split
  next q hq =>
    refine if_neg ?_
    rintro ⟨hstate, hrole, hstrap, hid, hlength⟩
    rcases h with h | h | h | h
    · exact hstate h
    · exact h hrole
    · exact absurd hstrap (Bool.eq_false_iff.mp h)
    · exact (h q hq).elim (fun hne => hne hid) fun hle => absurd hlength (Nat.not_lt.mpr hle)
  next => rfl

/-- A CUT that passes the tests proposes a cut (R150). -/
theorem takePeerCut_passed (h : ¬ (s.engineState = .rollcall ∨ s.role src ≠ some .engine ∨
      s.straps.peerCuts = false ∨ ∀ q ∈ s.follower.reel, q.id ≠ reel ∨ q.length ≤ frame)) :
    s.takePeerCut src reel frame = s.propose frame (.peer src) := by
  push Not at h
  obtain ⟨hstate, hrole, hstrap, q, hq, hid, hlength⟩ := h
  have hreel : s.follower.reel = some q := hq
  rw [State.takePeerCut, hreel]
  exact if_pos ⟨hstate, hrole, Bool.eq_true_of_not_eq_false hstrap, hid, hlength⟩

/-- A proposal at a frame where a record starts does nothing (R81). -/
theorem State.propose_taken {f : Nat} {o : Origin} (h : ∃ r ∈ s.scenes, r.start = f) :
    s.propose f o = s := by
  refine if_pos ?_
  rw [Option.isSome_iff_ne_none, Ne, sceneAt_none]
  exact fun hnone => h.elim fun r hr => hnone r hr.1 hr.2

/-- A proposal at a free frame of a full table has TABLE_FULL's event alone (R81). -/
theorem State.propose_full {f : Nat} {o : Origin} (h : ¬ ∃ r ∈ s.scenes, r.start = f)
    (hfull : 256 ≤ s.scenes.length) : s.propose f o = s.raise .tableFull := by
  have hfree : sceneAt s.scenes f = none :=
    sceneAt_none.mpr fun r hr hstart => h ⟨r, hr, hstart⟩
  rw [State.propose, hfree]
  exact if_pos (decide_eq_true hfull)

/-- A proposal at a free frame of a table with room inserts the record (R81). -/
theorem State.propose_free {f : Nat} {o : Origin} (h : ¬ ∃ r ∈ s.scenes, r.start = f)
    (hroom : s.scenes.length < 256) :
    s.propose f o = s.insertRecord ⟨f, (sceneOf s.scenes f).slot, .cut, 1, o, false⟩ := by
  have hfree : sceneAt s.scenes f = none :=
    sceneAt_none.mpr fun r hr hstart => h ⟨r, hr, hstart⟩
  rw [State.propose, hfree]
  exact if_neg (Bool.eq_false_iff.mp (scenesFull_eq_false.mpr hroom))

/-- Everything that an inserted proposal does (R64, R73, R81). -/
theorem propose_effects {f : Nat} (o : Origin) (hscenes : ScenesSound s) (hpool : PoolSound s)
    (h : ¬ ∃ r ∈ s.scenes, r.start = f) :
    let r : Scene := ⟨f, (sceneOf s.scenes f).slot, .cut, 1, o, false⟩
    Sorted (s.insertRecord r).scenes ∧
    (∀ x, x ∈ (s.insertRecord r).scenes ↔ x = r ∨ x ∈ s.scenes) ∧
    Pushed (.sceneInserted f) s (s.insertRecord r) ∧ PoolSound (s.insertRecord r) ∧
    (∀ n, gradeOf (s.insertRecord r) n = gradeOf s n) ∧
    { s.insertRecord r with scenes := s.scenes, history := s.history, pool := s.pool } = s := by
  have hok := tableOk_of_scenesSound hscenes
  have halloc : s.pool.slot (sceneOf s.scenes f).slot ≠ none :=
    slot_of_scene hpool (sceneOf_mem (tableOk_head hok) f).1
  exact insertRecord_effects hpool hok.2.2.1
    (sceneAt_none.mpr fun r hr hstart => h ⟨r, hr, hstart⟩) halloc

end

/-- Settles O52: the handler's tests, then the proposal's cases. -/
theorem peerCutEffects : Obligations.PeerCutEffects := by
  unfold Obligations.PeerCutEffects
  intro src dst reel frame measure s i hhead hscenes hpool
  have hexec : exec i s =
      .next ((served s).takePeerCut src reel.toNat frame.toNat).takeWaiting :=
    exec_atHead rfl hhead
  split
  next hnothing =>
    rw [hexec]
    by_cases hfailed : s.engineState = .rollcall ∨ s.role src ≠ some .engine ∨
        s.straps.peerCuts = false ∨
        ∀ q ∈ s.follower.reel, q.id ≠ reel.toNat ∨ q.length ≤ frame.toNat
    · rw [takePeerCut_failed (s := served s) hfailed]
    · rw [takePeerCut_passed (s := served s) hfailed,
        State.propose_taken (s := served s) (by tauto)]
  next hpassed =>
    have hpassed' : ¬ (s.engineState = .rollcall ∨ s.role src ≠ some .engine ∨
        s.straps.peerCuts = false ∨
        ∀ q ∈ s.follower.reel, q.id ≠ reel.toNat ∨ q.length ≤ frame.toNat) := by tauto
    have hfree : ¬ ∃ r ∈ s.scenes, r.start = frame.toNat :=
      fun h => hpassed (.inr (.inr (.inr (.inr h))))
    rw [takePeerCut_passed (s := served s) hpassed'] at hexec
    split
    next hfull => rw [hexec, State.propose_full (s := served s) hfree hfull.ge]
    next hroom =>
      have hlt : s.scenes.length < 256 :=
        Nat.lt_of_le_of_ne (tableOk_of_scenesSound hscenes).1 hroom
      rw [State.propose_free (s := served s) hfree hlt] at hexec
      exact ⟨_, _, rfl, hexec, propose_effects (s := served s) _ hscenes hpool hfree⟩

end Sys2Proof.Machine

/-! UNDO (Chapter 5): what each entry's revert does, and that an UNDO takes back the edit before it. -/

namespace Sys2Proof.Machine

open Safety

section
variable {s : State} {e : Entry} {n : Nat}

/-! ## What a revert does -/

/-- The grade of a slot after an entry is reverted (R59, R92). -/
def Entry.grade (e : Entry) (n : Nat) (o : Option Grade) : Option Grade :=
  match e with
  | .primaryChanged m q => if n = m then o.map (fun g => { g with primary := q }) else o
  | .vectorsChanged m vs => if n = m then o.map (fun g => { g with vectors := vs }) else o
  | .sceneInserted _ => o
  | .sceneRemoved _ => o
  | .sceneChanged _ => o

/-- A write of a free slot does nothing, and one of an allocated slot gives it the grade (R58). -/
theorem gradeOf_writeSlot_map (f : Grade → Grade) (m : Nat) :
    gradeOf (s.writeSlot m (f (s.pool.grade m))) n =
      if n = m then (gradeOf s n).map f else gradeOf s n := by
  simp only [gradeOf, State.writeSlot_fields, Pool.slot_write]
  split
  next h =>
    rw [← h, Pool.grade]
    cases s.pool.slot n <;> rfl
  next => rfl

/-- The grades after an entry is reverted (R59, R92). -/
theorem gradeOf_undoEntry : gradeOf (s.undoEntry e) n = e.grade n (gradeOf s n) := by
  have hdropped : gradeOf (s.undoEntry e) n = gradeOf (s.revert e) n := by
    rw [State.undoEntry_eq]
    exact gradeOf_recounted (Pool.recounted_releaseEntry e) n
  rw [hdropped]
  cases e with
  | primaryChanged m q => exact gradeOf_writeSlot_map (fun g => { g with primary := q }) m
  | vectorsChanged m vs => exact gradeOf_writeSlot_map (fun g => { g with vectors := vs }) m
  | sceneInserted f =>
    unfold State.revert
    dsimp only
    split
    next r hr => exact gradeOf_recounted Pool.recounted_release n
    next => rfl
  | sceneRemoved r => exact gradeOf_recounted Pool.recounted_claim n
  | sceneChanged r =>
    unfold State.revert
    dsimp only
    split
    next now hnow =>
      exact gradeOf_recounted (Pool.recounted_claim.trans Pool.recounted_release) n
    next => rfl

/-- The contexts that a reverted grade entry marks (R58). -/
def Entry.marked (e : Entry) (c : Controller) : Controller :=
  match e with
  | .primaryChanged m _ =>
    { c with current := markedBy m c.current, incoming := c.incoming.map (markedBy m) }
  | .vectorsChanged m _ =>
    { c with current := markedBy m c.current, incoming := c.incoming.map (markedBy m) }
  | .sceneInserted _ => c
  | .sceneRemoved _ => c
  | .sceneChanged _ => c

/-- The contexts after an UNDO, and what it leaves (R58, R90). -/
theorem State.undoEntry_effects :
    (s.undoEntry e).controller = e.marked s.controller ∧
    { s.undoEntry e with
      scenes := s.scenes, history := s.history, pool := s.pool, controller := s.controller } = s := by
  have hmark := fun m => Controller.markSlot_eq m s.controller
  rw [State.undoEntry_eq]
  unfold State.dropNewest
  cases e with
  | primaryChanged m q => exact ⟨hmark m, rfl⟩
  | vectorsChanged m vs => exact ⟨hmark m, rfl⟩
  | sceneInserted f =>
    unfold State.revert
    dsimp only
    split <;> exact ⟨rfl, rfl⟩
  | sceneRemoved r => exact ⟨rfl, rfl⟩
  | sceneChanged r =>
    unfold State.revert
    dsimp only
    split <;> exact ⟨rfl, rfl⟩

/-- The records after a scene entry that fits is reverted (R82, R91). -/
theorem mem_revertTable {t : List Scene} {x : Scene} (h : entryFits e t = true) :
    x ∈ revertTable e t ↔
      match e with
      | .sceneInserted f => x ∈ t ∧ x.start ≠ f
      | .sceneRemoved q => x = q ∨ x ∈ t
      | .sceneChanged q => x = q ∨ (x ∈ t ∧ x.start ≠ q.start)
      | .primaryChanged _ _ => x ∈ t
      | .vectorsChanged _ _ => x ∈ t := by
  cases e with
  | sceneInserted f => exact mem_removeScene
  | sceneRemoved q =>
    rw [entryFits, Bool.and_eq_true, Bool.not_eq_true', List.any_eq_false] at h
    exact mem_insertScene fun y hy => by simpa using h.2 y hy
  | sceneChanged q =>
    rw [entryFits, List.any_eq_true] at h
    obtain ⟨y, hy, heq⟩ := h
    rw [Bool.and_eq_true, beq_iff_eq] at heq
    exact mem_replaceScene ⟨y, hy, heq.1⟩
  | primaryChanged m q => exact Iff.rfl
  | vectorsChanged m vs => exact Iff.rfl

/-- The answers of UNDO: no reel, no entry, or the newest entry undone (R89, R90). -/
theorem undo_answers :
    (s.follower.reel = none → undo s = (s, refuse .noReel)) ∧
    (s.follower.reel ≠ none → s.history.entries = [] →
      undo s = (s, some (.empty, [flagByte s.history.complete]))) ∧
    (s.follower.reel ≠ none → s.history.entries.getLast? = some e →
      undo s = (s.undoEntry e, some (.done, e.bytes ++
        [byteOf s.history.entries.dropLast.length, flagByte s.history.complete]))) := by
  have hhistory : (s.undoEntry e).history =
      ⟨s.history.entries.dropLast, s.history.complete⟩ := (State.revert_history e).1
  refine ⟨fun h => ?_, fun h hnone => ?_, fun h hlast => ?_⟩
  · rw [undo, h]
    rfl
  · obtain ⟨q, hq⟩ := Option.ne_none_iff_exists'.mp h
    rw [undo, hq, hnone]
    rfl
  · obtain ⟨q, hq⟩ := Option.ne_none_iff_exists'.mp h
    have hentries : (s.undoEntry e).history.entries = s.history.entries.dropLast := by rw [hhistory]
    have hcomplete : (s.undoEntry e).history.complete = s.history.complete := by rw [hhistory]
    rw [undo, hq, hlast, ← hentries, ← hcomplete]
    rfl

end

/-- Settles O50: the newest entry leaves, and its kind decides what the revert gives back. -/
theorem undoReverts : Obligations.UndoReverts := by
  unfold Obligations.UndoReverts
  intro src dst s c i haccepted hscenes hpool
  have hexec := fun {t r data} => serveRequest_answers (t := t) (r := r) (data := data)
    (owner := undo) haccepted
  split
  next hnone => exact hexec ((undo_answers (s := served s) (e := .sceneInserted 0)).1 hnone)
  next hreel =>
    split
    next hempty =>
      exact hexec ((undo_answers (s := served s) (e := .sceneInserted 0)).2.1 hreel hempty)
    next hentries =>
      obtain ⟨e, hlast⟩ := Option.ne_none_iff_exists'.mp (mt List.getLast?_eq_none_iff.mp hentries)
      have hserved : ScenesSound (served s) := hscenes
      have hanswer := hexec ((undo_answers (s := served s)).2.2 hreel hlast)
      obtain ⟨htable, hhistory, -⟩ := State.undoEntry_scenes hserved hlast
      obtain ⟨hfits, hrest⟩ := reverts_newest hserved hlast
      have hsorted : Sorted (revertTable e s.scenes) := (tableOk_of_reverts hrest).2.2.1
      obtain ⟨hcontexts, hframe⟩ := State.undoEntry_effects (s := served s) (e := e)
      refine ⟨s.history.entries.dropLast, e, (served s).undoEntry e, entries_eq_of_getLast hlast,
        ?reply, hhistory, poolSound_undoEntry (s := served s) hpool hserved hlast,
        htable ▸ hsorted, fun r => ?records, fun n => ?grades, ?contexts, hframe⟩
      case reply =>
        refine hanswer.trans ?_
        cases e <;> rfl
      case records =>
        rw [htable]
        refine (mem_revertTable hfits).trans ?_
        cases e <;> rfl
      case grades =>
        rw [gradeOf_undoEntry]
        cases e <;> rfl
      case contexts =>
        rw [hcontexts]
        cases e <;> rfl

/-! ## UNDO takes back the edit before it (O51) -/

/-- An UNDO of `e` in `t` gives table, pool and history of `s`. -/
def Restores (e : Entry) (s t : State) : Prop :=
  (t.undoEntry e).scenes = s.scenes ∧ (t.undoEntry e).pool = s.pool ∧
  (t.undoEntry e).history = s.history

section
variable {s t : State} {e x : Entry} {n : Nat}

/-- What an UNDO gives back depends on table, pool and history alone. -/
theorem Restores.of_eq (h : Restores e s t) {u : State} (hscenes : u.scenes = t.scenes)
    (hpool : u.pool = t.pool) (hhistory : u.history = t.history) : Restores e s u := by
  have hsame : (u.undoEntry e).scenes = (t.undoEntry e).scenes ∧
      (u.undoEntry e).pool = (t.undoEntry e).pool ∧
      (u.undoEntry e).history = (t.undoEntry e).history := by
    rw [State.undoEntry_eq, State.undoEntry_eq]
    unfold State.dropNewest State.revert
    cases e with
    | sceneInserted f =>
      dsimp only
      rw [hscenes]
      cases sceneAt t.scenes f <;> simp [hscenes, hpool, hhistory]
    | sceneRemoved r => simp [hscenes, hpool, hhistory]
    | sceneChanged r =>
      dsimp only
      rw [hscenes]
      cases sceneAt t.scenes r.start <;> simp [State.changeRecord, hscenes, hpool, hhistory]
    | primaryChanged n q => simp [hscenes, hpool, hhistory]
    | vectorsChanged n vs => simp [hscenes, hpool, hhistory]
  obtain ⟨h1, h2, h3⟩ := hsame
  obtain ⟨k1, k2, k3⟩ := h
  exact ⟨h1.trans k1, h2.trans k2, h3.trans k3⟩

/-- A push that made the history longer discarded no entry (R87). -/
theorem State.push_of_longer (h : (s.push x).history.entries = s.history.entries ++ [e]) :
    x = e ∧ s.push x = s.append x := by
  rw [State.push_eq_append] at h ⊢
  rcases State.discardOldest_cases (s := s) with ⟨-, heq⟩ | ⟨old, rest, hentries, -, heq⟩
  · rw [heq] at h ⊢
    exact ⟨by simpa [State.append] using h, rfl⟩
  · rw [heq] at h
    have hlength := congrArg List.length h
    rw [hentries] at hlength
    simp [State.append] at hlength

/-- The history after the entry that was pushed leaves again. -/
theorem State.history_undoEntry (h : t.history = (s.append e).history) :
    (t.undoEntry e).history = s.history := by
  refine (State.revert_history e).1.trans ?_
  rw [h]
  simp [State.append]

/-- An UNDO takes back an inserted record (R82, R91). -/
theorem restores_insertRecord {r : Scene} (hs : Sorted s.scenes)
    (hfree : sceneAt s.scenes r.start = none)
    (h : (s.insertRecord r).history.entries = s.history.entries ++ [e]) :
    Restores e s (s.insertRecord r) := by
  obtain ⟨rfl, hpush⟩ := State.push_of_longer h
  have hempty := sceneAt_none.mp hfree
  have hinserted : s.insertRecord r = { s.append (.sceneInserted r.start) with
      scenes := insertScene r s.scenes, pool := s.pool.claim r.slot } := by
    rw [State.insertRecord, hpush]
    rfl
  have hat : sceneAt (insertScene r s.scenes) r.start = some r :=
    sceneAt_of_mem (sorted_insertScene hs r) ((mem_insertScene hempty).mpr (.inl rfl))
  refine ⟨?_, ?_, State.history_undoEntry (by rw [hinserted])⟩
  · rw [hinserted, State.undoEntry_eq, State.dropNewest, State.revert, hat]
    exact removeScene_insertScene hs hempty
  · rw [hinserted, State.undoEntry_eq, State.dropNewest, State.revert, hat]
    exact Pool.release_claim _ _

/-- An UNDO takes back a cleared record (R82, R91). -/
theorem restores_clearRecord {r : Scene} (hs : Sorted s.scenes) (hr : r ∈ s.scenes)
    (h : (s.clearRecord r).history.entries = s.history.entries ++ [e]) :
    Restores e s (s.clearRecord r) := by
  obtain ⟨rfl, hpush⟩ := State.push_of_longer h
  have hcleared : s.clearRecord r = { s.append (.sceneRemoved r) with
      scenes := removeScene r.start s.scenes, pool := s.pool } := by
    rw [State.clearRecord, hpush]
    exact congrArg (fun p => { s.append (.sceneRemoved r) with
      scenes := removeScene r.start s.scenes, pool := p }) (Pool.release_claim s.pool r.slot)
  refine ⟨?_, ?_, State.history_undoEntry (by rw [hcleared])⟩
  · rw [hcleared]
    exact insertScene_removeScene hs hr
  · rw [hcleared]
    exact Pool.release_claim _ _

/-- A reference that moves from one slot to another and back, with that of the entry, leaves the pool as it was (R49, R86). -/
theorem Pool.moved_back (p : Pool) (a b : Nat) :
    ((((((p.claim a).claim b).release a).claim a).release b).release a) = p := by
  have h1 : p.Recounted ((p.claim a).claim b) := Pool.recounted_claim.trans Pool.recounted_claim
  have h2 : p.Recounted (((p.claim a).claim b).release a) := h1.trans Pool.recounted_release
  have h3 := h2.trans ((Pool.recounted_claim (m := a)).trans
    ((Pool.recounted_release (m := b)).trans (Pool.recounted_release (m := a))))
  refine h3.eq fun n h0 halloc => ?_
  rw [Pool.refs_release h0, Pool.refs_release h0,
    Pool.refs_claim_of h0 (mt h2.slot_eq_none.mp halloc), Pool.refs_release h0,
    Pool.refs_claim_of h0 (mt Pool.recounted_claim.slot_eq_none.mp halloc),
    Pool.refs_claim_of h0 halloc]
  omega

/-- An UNDO takes back a changed record, also one that kept its slot (R82, R91, log 31). -/
theorem restores_changeRecord {r new : Scene} (hs : Sorted s.scenes) (hr : r ∈ s.scenes)
    (hstart : new.start = r.start)
    (h : ((s.push (.sceneChanged r)).changeRecord r new).history.entries =
      s.history.entries ++ [e]) :
    Restores e s ((s.push (.sceneChanged r)).changeRecord r new) := by
  obtain ⟨rfl, hpush⟩ := State.push_of_longer h
  have hat : sceneAt (replaceScene new s.scenes) r.start = some new := by
    rw [← hstart]
    exact sceneAt_of_mem (sorted_replaceScene hs new)
      ((mem_replaceScene ⟨r, hr, hstart.symm⟩).mpr (.inl rfl))
  rw [hpush]
  have hscenes : ((s.append (.sceneChanged r)).changeRecord r new).scenes =
      replaceScene new s.scenes := rfl
  have hpool : ((s.append (.sceneChanged r)).changeRecord r new).pool =
      ((s.pool.claim r.slot).claim new.slot).release r.slot := rfl
  refine ⟨?_, ?_, State.history_undoEntry rfl⟩
  · rw [State.undoEntry_eq, State.dropNewest, State.revert, hscenes, hat]
    exact replaceScene_replaceScene hs hr hstart
  · rw [State.undoEntry_eq, State.dropNewest, State.revert, hscenes, hat]
    exact Pool.moved_back s.pool r.slot new.slot

/-- A grade edit's pool once the prior grade is written back and the entry's reference is released (R58, R59). -/
theorem Pool.written_back {p : Pool} {r : Slot} (hslot : p.slot n = some r) (h0 : n ≠ 0) (g : Grade) :
    (((p.claim n).write n g).write n r.grade).release n = p := by
  refine Pool.ext_slot (by simp [Pool.release, Pool.claim]) fun m => ?_
  rw [Pool.release, Pool.slot_recount, Pool.slot_write, Pool.slot_write, Pool.claim,
    Pool.slot_recount]
  by_cases hm : m = n
  · subst hm
    simp [h0, hslot]
  · simp [hm]

/-- An UNDO takes back a grade edit whose entry holds what the edit replaced (R59, R92). -/
theorem restores_writeSlot {r : Slot} {g : Grade} (hslot : s.pool.slot n = some r) (h0 : n ≠ 0)
    (hx : (x = .primaryChanged n r.grade.primary ∧ g.vectors = r.grade.vectors) ∨
      (x = .vectorsChanged n r.grade.vectors ∧ g.primary = r.grade.primary))
    (h : ((s.push x).writeSlot n g).history.entries = s.history.entries ++ [e]) :
    Restores e s ((s.push x).writeSlot n g) := by
  have hlonger : (s.push x).history.entries = s.history.entries ++ [e] := h
  obtain ⟨rfl, hpush⟩ := State.push_of_longer hlonger
  rw [hpush]
  have hgrade : ((s.pool.claim n).write n g).grade n = g := by
    simp [Pool.grade, Pool.slot_write, Pool.claim, Pool.slot_recount, h0, hslot]
  rcases hx with ⟨rfl, hkept⟩ | ⟨rfl, hkept⟩
  · have hprior : { ((s.pool.claim n).write n g).grade n with primary := r.grade.primary } =
        r.grade := by
      rw [hgrade]
      exact congrArg (fun vs => (⟨r.grade.primary, vs⟩ : Grade)) hkept
    refine ⟨rfl, ?_, State.history_undoEntry rfl⟩
    refine Eq.trans ?_ (Pool.written_back hslot h0 g)
    rw [← hprior]
    rfl
  · have hprior : { ((s.pool.claim n).write n g).grade n with vectors := r.grade.vectors } =
        r.grade := by
      rw [hgrade]
      exact congrArg (fun p => (⟨p, r.grade.vectors⟩ : Grade)) hkept
    refine ⟨rfl, ?_, State.history_undoEntry rfl⟩
    refine Eq.trans ?_ (Pool.written_back hslot h0 g)
    rw [← hprior]
    rfl

/-- An UNDO takes back what an owner did that made the history longer. -/
theorem Owned.restores {named : Option Byte} (h : Owned s named t) (hs : Sorted s.scenes)
    (hlonger : t.history.entries = s.history.entries ++ [e]) : Restores e s t := by
  have hsame : ∀ {u : State}, u.history = s.history →
      u.history.entries = s.history.entries ++ [e] → False := by
    intro u hu hlong
    rw [hu] at hlong
    simp at hlong
  cases h with
  | marked _ _ hfree => exact restores_insertRecord hs hfree hlonger
  | cleared hr => exact restores_clearRecord hs (sceneAt_some hr).1 hlonger
  | set _ hr hstart => exact restores_changeRecord hs (sceneAt_some hr).1 hstart hlonger
  | purged =>
    have hempty : s.purgeScenes.purgeHistory.history.entries = [] := rfl
    rw [hempty] at hlonger
    simp at hlonger
  | primary _ h0 hslot => exact restores_writeSlot hslot h0 (.inl ⟨rfl, rfl⟩) hlonger
  | vectors _ h0 hslot => exact restores_writeSlot hslot h0 (.inr ⟨rfl, rfl⟩) hlonger
  | @undone newest hlast =>
    have hlength := congrArg List.length hlonger
    rw [State.undoEntry_eq, State.dropNewest, (State.revert_history newest).1] at hlength
    simp at hlength
  | cancelled =>
    have hcancelled : s.replyCancelled.history = s.history := by
      rw [State.lineWork_replyCancelled]
    exact (hsame (u := s.replyCancelled) hcancelled hlonger).elim
  | same | allocated | dropped | loadStarted | loaded | installed | enables | profile | latches =>
    exact (hsame rfl hlonger).elim

/-- An UNDO takes back a proposal that made the history longer (R82). -/
theorem restores_propose {f : Nat} {o : Origin} (hs : Sorted s.scenes)
    (hlonger : (s.propose f o).history.entries = s.history.entries ++ [e]) :
    Restores e s (s.propose f o) := by
  rcases s.propose_cases f o with heq | heq | ⟨hfree, -, heq⟩
  · rw [heq] at hlonger
    simp at hlonger
  · rw [heq, (s.raise_fields .tableFull).2.2.2.2.2.2.2.2.2.2.2.2.1] at hlonger
    simp at hlonger
  · rw [heq] at hlonger ⊢
    exact restores_insertRecord hs hfree hlonger

/-- An UNDO takes back a service that made the history longer (R82, R90). -/
theorem restores_serviceWork (c : Cue) (hs : Sorted s.scenes)
    (hlonger : (serviceWork c s).history.entries = s.history.entries ++ [e]) :
    Restores e s (serviceWork c s) := by
  rcases serviceWork_cases c with ⟨r, f, m, -, h⟩ | ⟨-, h⟩ <;> rw [h] at hlonger ⊢
  · rcases s.takePeerCut_cases c.src r.toNat f.toNat with heq | ⟨_, _, _, heq⟩ <;>
      rw [heq] at hlonger ⊢
    · simp at hlonger
    · exact restores_propose hs hlonger
  · rcases handle_cases c (ownerOf c) s with ⟨r, hr⟩ | ⟨-, -, ho⟩
    · rw [hr] at hlonger
      simp at hlonger
    · rw [ho] at hlonger ⊢
      have howned : (ownerOf c s).1.history.entries = s.history.entries ++ [e] := by
        simpa using hlonger
      exact ((ownerOf_owned c).restores hs howned).of_eq (by simp) (by simp) (by simp)

/-- A service's work leaves follower, raster, roster and roll-call window (R174). -/
theorem serviceWork_state (c : Cue) :
    (serviceWork c s).resetHeld = s.resetHeld ∧ (serviceWork c s).raster = s.raster ∧
    (serviceWork c s).follower = s.follower ∧ (serviceWork c s).roster = s.roster ∧
    (serviceWork c s).rollCall = s.rollCall := by
  rcases serviceWork_cases c with ⟨r, f, m, -, h⟩ | ⟨-, h⟩ <;> rw [h]
  · rcases s.takePeerCut_cases c.src r.toNat f.toNat with heq | ⟨_, _, _, heq⟩ <;> rw [heq] <;>
      simp
  · rcases handle_cases c (ownerOf c) s with ⟨r, hr⟩ | ⟨-, -, ho⟩
    · rw [hr]
      simp
    · obtain ⟨-, hheld, -, hraster, -, -, -, -, -, hfollower, -, hroster, hroll, -⟩ :=
        (ownerOf_owned (s := s) c).frame
      rw [ho]
      simp [hheld, hraster, hfollower, hroster, hroll]

end

/-- Settles O51: the edit's service leaves what the UNDO needs to be handed on, and its newest entry is the edit's. -/
theorem undoRestores : Obligations.UndoRestores := by
  unfold Obligations.UndoRestores
  intro i c src dst rest e s t u hi hscenes hrunning hfifo hwaiting hstate hrole hreel hexec hlonger
    hundo
  have hs : Sorted s.scenes := (tableOk_of_scenesSound hscenes).2.2.1
  obtain ⟨hkeptFifo, hkeptWaiting, -⟩ := State.lineKept_serviceWork (s := served s) c
  obtain ⟨hheld, hraster, hfollower, hroster, hroll⟩ := serviceWork_state (s := served s) c
  have ht : t = serviceWork c (served s) := by
    have hdone := exec_atHead hi (s := s) ⟨hrunning, by rw [hfifo]; rfl⟩
    rw [State.takeWaiting_of_none (hkeptWaiting.trans hwaiting), hexec] at hdone
    exact Host.Outcome.next.inj hdone
  have htFifo : t.line.fifo = ⟨src, dst, .undo⟩ :: rest := by
    rw [ht, hkeptFifo, served, hfifo]
    rfl
  have htWaiting : t.line.lineResets = [] := by
    rw [ht]
    exact hkeptWaiting.trans hwaiting
  have htState : t.engineState = s.engineState := by
    unfold State.engineState
    rw [ht, hroll, hraster, hfollower]
    rfl
  have haccepted : Accepted ⟨src, dst, .undo⟩ t := by
    refine ⟨⟨?_, by rw [htFifo]; rfl⟩, htState ▸ hstate, ?_⟩
    · rw [ht, hheld]
      exact hrunning
    · rw [State.role, ht, hroster]
      exact hrole
  have hrestores : Restores e s t := by
    rw [ht] at hlonger ⊢
    exact restores_serviceWork (s := served s) c hs hlonger
  have hlast : (served t).history.entries.getLast? = some e := by
    have hentries : (served t).history.entries = s.history.entries ++ [e] := hlonger
    rw [hentries, List.getLast?_concat]
  have hanswer := serveRequest_answers haccepted
    ((undo_answers (s := served t)).2.2 (by rw [served, ht, hfollower]; exact hreel) hlast)
  have hnone : (((served t).undoEntry e).reply ⟨src, dst, .undo⟩ (some (.done, e.bytes ++
      [byteOf (served t).history.entries.dropLast.length,
        flagByte (served t).history.complete]))).line.lineResets = [] := by
    obtain ⟨-, hwait, -⟩ := State.lineKept_reply (s := (served t).undoEntry e) ⟨src, dst, .undo⟩
      (some (.done, e.bytes ++ [byteOf (served t).history.entries.dropLast.length,
        flagByte (served t).history.complete]))
    rw [hwait, ((served t).undoEntry_frame e).2]
    exact htWaiting
  have hu := Host.Outcome.next.inj (hundo.symm.trans hanswer)
  rw [answered, State.takeWaiting_of_none hnone] at hu
  obtain ⟨htable, hpool, hhistory⟩ := hrestores.of_eq (u := served t) rfl rfl rfl
  rw [hu]
  simp [htable, hpool, hhistory]

end Sys2Proof.Machine

/-! The raster lock monitor (Section 9.3): the judgement of a field, and the declaration of loss (Section 9.5). -/

namespace Sys2Proof.Machine

open Safety

section
variable {s : State}

/-! ## The judgement -/

/-- The line counts of a good field (Table 9-2). -/
theorem goodCount_iff {std : Standard} {n : Nat} :
    Config.goodCount std n = true ↔ GoodCount std n := by
  cases std <;> simp [Config.goodCount, GoodCount]

/-- A loss of lock sets both runs to 0 (R161). -/
theorem State.loseLock_raster :
    s.loseLock.raster = { s.raster with locked := false, goodRun := 0, badRun := 0 } := by
  simp [State.loseLock]

/-- What a bad field makes of lock and runs (R158, R159). -/
theorem State.badField_runs :
    (s.badField.raster.locked, s.badField.raster.goodRun, s.badField.raster.badRun) =
      if s.raster.locked = true then
        if s.raster.badRun = 0 then (true, s.raster.goodRun, 1) else (false, 0, 0)
      else (false, 0, s.raster.badRun) := by
  unfold State.badField
  split
  next hlocked =>
    split
    next => rw [hlocked]
    next => rw [State.loseLock_raster]
  next hunlocked => rw [Bool.eq_false_iff.mpr hunlocked]

/-- A bad field leaves the sync's marks (R158). -/
theorem State.badField_marks :
    s.badField.raster.lineCount = s.raster.lineCount ∧
    s.badField.raster.fieldOpen = s.raster.fieldOpen ∧
    s.badField.raster.sinceStart = s.raster.sinceStart := by
  unfold State.badField
  split
  next =>
    split
    next => exact ⟨rfl, rfl, rfl⟩
    next =>
      rw [State.loseLock_raster]
      exact ⟨rfl, rfl, rfl⟩
  next => exact ⟨rfl, rfl, rfl⟩

/-- What a good field makes of lock and runs (R158, R159). -/
theorem State.goodField_runs :
    (s.goodField.raster.locked, s.goodField.raster.goodRun, s.goodField.raster.badRun) =
      if s.raster.locked = true then (true, s.raster.goodRun, 0)
      else if s.raster.goodRun = 3 then (true, 0, 0)
      else (false, s.raster.goodRun + 1, s.raster.badRun) := by
  unfold State.goodField
  split
  next hlocked => rw [hlocked]
  next hunlocked =>
    split
    next => rfl
    next => rw [Bool.eq_false_iff.mpr hunlocked]

/-- What the judgement at a field sync makes of lock and runs (R156). -/
theorem State.judgeField_runs :
    (s.judgeField.raster.locked, s.judgeField.raster.goodRun, s.judgeField.raster.badRun) =
      if s.raster.fieldOpen = false then (s.raster.locked, s.raster.goodRun, s.raster.badRun)
      else if GoodCount s.straps.standard s.raster.lineCount then
        if s.raster.locked = true then (true, s.raster.goodRun, 0)
        else if s.raster.goodRun = 3 then (true, 0, 0)
        else (false, s.raster.goodRun + 1, s.raster.badRun)
      else
        if s.raster.locked = true then
          if s.raster.badRun = 0 then (true, s.raster.goodRun, 1) else (false, 0, 0)
        else (false, 0, s.raster.badRun) := by
  unfold State.judgeField
  split
  next hopen =>
    have hopened : ¬ s.raster.fieldOpen = false := by
      rw [hopen]
      decide
    rw [if_neg hopened]
    by_cases hgood : GoodCount s.straps.standard s.raster.lineCount
    case pos => rw [if_pos hgood, if_pos (goodCount_iff.mpr hgood), State.goodField_runs]
    case neg => rw [if_neg hgood, if_neg (mt goodCount_iff.mp hgood), State.badField_runs]
  next hclosed => rw [if_pos (Bool.eq_false_iff.mpr hclosed)]

/-- The lock monitor and the video after a field sync: the judged ones, with the sync's marks (R153, R156). -/
theorem State.fieldSync_raster (p : Bool) :
    (s.fieldSync p).raster =
      { s.judgeField.raster with lineCount := 0, fieldOpen := true, sinceStart := 0 } ∧
    (s.fieldSync p).video = { s.video with parity := p } := by
  have hvideo : s.judgeField.video = s.video := by
    rcases s.judgeField_cases with ⟨r, -, heq⟩ | ⟨-, heq⟩ <;> rw [heq]
    simp [State.loseLock]
  obtain ⟨hraster, hboundary, -⟩ := State.fieldBoundary_fields (s := s.judgeField.syncMarked p)
  rw [State.fieldSync_eq]
  split
  next =>
    rw [hraster, hboundary, State.syncMarked, hvideo]
    exact ⟨rfl, rfl⟩
  next =>
    rw [State.syncMarked, hvideo]
    exact ⟨rfl, rfl⟩

end

/-- Settles O35: the runs after each sync, and the cases in which neither boundary nor loss follows. -/
theorem fieldJudging : Obligations.FieldJudging := by
  unfold Obligations.FieldJudging
  intro s hrunning
  refine ⟨fun p => ?sync, ?expiry⟩
  case sync =>
    obtain ⟨hraster, hvideo⟩ := State.fieldSync_raster (s := s) p
    refine ⟨s.fieldSync p, whenRunning_running s (State.fieldSync p) hrunning, hvideo, ?_, ?_, ?_, ?_,
      fun hbefore hafter => ?_⟩
    · rw [hraster]
    · rw [hraster]
    · rw [hraster]
    · rw [hraster]
      exact State.judgeField_runs
    · rcases s.fieldSync_cases p with ⟨r, v, hlock, -, heq⟩ | ⟨r, v, -, -, -, heq⟩ | ⟨hlocked, -⟩
      · obtain ⟨hkept, -⟩ := State.fieldBoundary_fields (s := { s with raster := r, video := v })
        rw [heq, hkept] at hafter
        exact absurd hlock (Bool.eq_false_iff.mp hafter)
      · rw [heq]
      · exact absurd hlocked (Bool.eq_false_iff.mp hbefore)
  case expiry =>
    have hruns := State.badField_runs (s := s.expired)
    obtain ⟨hline, hopen, htimer⟩ := State.badField_marks (s := s.expired)
    refine ⟨s.missingSync, whenRunning_running s State.missingSync hrunning, hline, hopen, htimer,
      hruns, s.missingSync_capture, fun hsame => ?_⟩
    rcases s.missingSync_cases with ⟨r, -, heq⟩ | ⟨hlocked, heq⟩
    · rw [heq]
      rfl
    · rw [heq, State.loseLock_unlocked] at hsame
      exact absurd hlocked (Bool.eq_false_iff.mp hsame)

/-! ## The declaration of loss -/

section
variable {s : State} {l : Latch}

/-- A cue offered to a line is the one cue it may add (R178). -/
theorem Line.mem_offered {a : Station} {c : TxCue} {q : Line} {e : TxEntry}
    (he : e ∈ (q.offered a c).tx) : e ∈ q.tx ∨ e.cue = c := by
  have hjoin : ∀ q : Line, e ∈ (q.join a c).tx → e ∈ q.tx ∨ e.cue = c := by
    intro q hq
    obtain ⟨-, -, htx, -⟩ := Line.contend_fields a
      { q with tx := insertTx ⟨c, q.nextJoin, 0⟩ q.tx, nextJoin := q.nextJoin + 1 }
    rw [Line.join, htx, mem_insertTx] at hq
    exact hq.elim (fun h => .inr (h ▸ rfl)) .inl
  unfold Line.offered at he
  split at he
  next =>
    split at he
    next => exact (hjoin _ he).imp_left List.mem_of_mem_filter
    next => exact .inl he
  next => exact hjoin q he

/-- An offer adds at most FAULTs to the cues of a line beside the cue offered (R178). -/
theorem State.mem_offer {c : TxCue} {e : TxEntry} (he : e ∈ (s.offer c).line.tx) :
    e ∈ s.line.tx ∨ e.cue = c ∨ ∃ newly held, e.cue = ⟨15, .fault newly held⟩ := by
  unfold State.offer at he
  split at he
  next => exact .inl he
  next =>
    dsimp only at he
    split at he
    next =>
      unfold State.overflow at he
      dsimp only at he
      split at he
      next => exact (Line.mem_offered he).imp_right .inl
      next =>
        split at he
        next =>
          rcases Line.mem_offered he with he | he
          · exact (Line.mem_offered he).imp_right .inl
          · exact .inr (.inr ⟨_, _, he⟩)
        next => exact (Line.mem_offered he).imp_right .inl
    next => exact (Line.mem_offered he).imp_right .inl

/-- An event adds at most FAULTs to the cues of a line (R189, R191). -/
theorem State.mem_raise {e : TxEntry} (he : e ∈ (s.raise l).line.tx) :
    e ∈ s.line.tx ∨ ∃ newly held, e.cue = ⟨15, .fault newly held⟩ := by
  unfold State.raise at he
  split at he
  next => exact .inl he
  next =>
    dsimp only at he
    split at he
    next =>
      rcases State.mem_offer he with h | h | h
      · exact .inl h
      · exact .inr ⟨_, _, h⟩
      · exact .inr h
    next => exact .inl he

/-- A dissolve that completes leaves every grade (R123). -/
theorem State.recounted_completeDissolve : s.pool.Recounted s.completeDissolve.pool := by
  unfold State.completeDissolve
  split
  next => exact Pool.recounted_release
  next => exact .refl _

/-- The controller once a running dissolve is complete (R123). -/
theorem State.completeDissolve_controller :
    s.completeDissolve.controller = completed s.controller := by
  unfold State.completeDissolve completed
  cases s.controller.incoming <;> rfl

/-- Everything that a declaration of loss does (R115, R133, R141, R161). -/
theorem State.loseLock_effects :
    s.loseLock.held .syncLost = true ∧ s.loseLock.forcedBlack = true ∧
    s.loseLock.line = (s.raise .syncLost).line ∧ s.loseLock.latches = (s.raise .syncLost).latches ∧
    s.loseLock.follower = { s.follower with
      schedule := [], current := none, coast := 0, holdCoast := false } ∧
    s.loseLock.controller = completed s.controller ∧
    s.loseLock.detector = { s.detector with bins := List.replicate 16 0, capture := none } ∧
    (∀ n, gradeOf s.loseLock n = gradeOf s n) ∧
    { s.loseLock with
      latches := s.latches, forcedBlack := s.forcedBlack, follower := s.follower
      controller := s.controller, detector := s.detector, pool := s.pool
      line := s.line, raster := s.raster } = s := by
  obtain ⟨hline, hlatches⟩ := s.loseLock_event
  have hcontroller : s.loseLock.controller = completed s.controller := by
    have hkept := State.completeDissolve_controller (s := State.raise .syncLost { s with
      raster := { s.raster with locked := false, goodRun := 0, badRun := 0 }, forcedBlack := true })
    exact hkept.trans (by simp)
  have hpool : s.pool.Recounted s.loseLock.pool := by
    have hkept := State.recounted_completeDissolve (s := State.raise .syncLost { s with
      raster := { s.raster with locked := false, goodRun := 0, badRun := 0 }, forcedBlack := true })
    rw [(by simp : s.pool = (State.raise .syncLost { s with
      raster := { s.raster with locked := false, goodRun := 0, badRun := 0 }
      forcedBlack := true }).pool)]
    exact hkept
  refine ⟨?_, by simp [State.loseLock], hline, hlatches, by simp [State.loseLock, Follower.loseLock],
    hcontroller, by simp [State.loseLock], gradeOf_recounted hpool, ?_⟩
  · rw [State.held, hlatches]
    exact State.held_raise .syncLost
  · rw [State.loseLock, State.completeDissolve_eq, State.raise_eq]

end

/-- Settles O36: of the commands a field sync and a missing-sync expiry alone move the lock, and a loss there is the declaration. -/
theorem lossOfLock : Obligations.LossOfLock := by
  unfold Obligations.LossOfLock
  intro c s t hreset hexec hlocked hlost
  have hkept : t.raster.locked = s.raster.locked → False := by
    intro h
    rw [hlost, hlocked] at h
    cases h
  have hfault : ∀ e ∈ (s.raise .syncLost).line.tx,
      e ∈ s.line.tx ∨ ∃ newly held, e.cue = ⟨15, .fault newly held⟩ := fun e he => State.mem_raise he
  obtain ⟨hfifo, -⟩ := s.lineKept_raise .syncLost
  cases (effect_of_exec hexec).deed with
  | powerOn straps => exact absurd (.inr ⟨straps, rfl⟩) hreset
  | asserted => exact absurd (.inl rfl) hreset
  | cues _ _ hchain =>
    obtain ⟨-, -, -, hraster, -⟩ := hchain.framed
    exact (hkept (by rw [hraster])).elim
  | fieldSync p =>
    rcases s.fieldSync_cases p with ⟨r, v, hlock, -, heq⟩ | ⟨r, v, hunlocked, -⟩ | ⟨-, heq⟩
    · obtain ⟨hboundary, -⟩ := State.fieldBoundary_fields (s := { s with raster := r, video := v })
      rw [heq, hboundary] at hlost
      exact absurd hlock (Bool.eq_false_iff.mp hlost)
    · exact absurd hlocked (Bool.eq_false_iff.mp hunlocked)
    · rw [heq]
      obtain ⟨hheld, hblack, hline, hlatches, hfollower, hcontroller, hdetector, hgrades, hframe⟩ :=
        s.loseLock_effects
      have hvideo : s.loseLock.video = s.video := by simp [State.loseLock]
      refine ⟨hheld, hblack, hline, hlatches, hfollower, hcontroller, hdetector, hgrades, ?_, ?_, ?_,
        nofun, ?_, ?_⟩
      · exact fun e he => hfault e (hline ▸ he)
      · exact (congrArg Line.fifo hline).trans hfifo
      · rw [State.syncMarked, hvideo]
      · rintro q ⟨⟩
        rfl
      · exact congrArg (fun x : State => { x with raster := s.raster, video := s.video }) hframe
  | expiry =>
    rcases s.missingSync_cases with ⟨r, hlock, heq⟩ | ⟨-, heq⟩
    · exact (hkept (by rw [heq]; exact hlock)).elim
    · rw [heq]
      obtain ⟨hheld, hblack, hline, hlatches, hfollower, hcontroller, hdetector, hgrades, hframe⟩ :=
        s.expired.loseLock_effects
      obtain ⟨hraiseLine, hraiseLatches⟩ := s.raise_congr .syncLost s.expired rfl rfl rfl rfl
      have hvideo : s.expired.loseLock.video = s.video := by simp [State.loseLock, State.expired]
      refine ⟨hheld, hblack, hline.trans hraiseLine, hlatches.trans hraiseLatches, hfollower,
        hcontroller, hdetector, hgrades, ?_, ?_, ?_, fun _ => hvideo, nofun, ?_⟩
      · exact fun e he => hfault e (hraiseLine ▸ hline ▸ he)
      · exact (congrArg Line.fifo (hline.trans hraiseLine)).trans hfifo
      · rw [hvideo]
      · exact congrArg (fun x : State => { x with
          raster := s.raster, video := s.video, detector := s.detector }) hframe
  | pixelClock =>
    refine (hkept ?_).elim
    rw [(State.pixelClock_fields _ _ _ _ _).2.2.2.1]
    rfl
  | lineSync | held | windowEnd => exact (hkept rfl).elim

end Sys2Proof.Machine

/-! The transition controller at a field boundary (R123 to R130). -/

namespace Sys2Proof.Machine

open Safety

section
variable {s t : State} {r : Scene} {f : CurrentFrame} {b : Bool}

/-! ## Grades and contexts -/

/-- Counting gives no slot another grade to load. -/
theorem Pool.Recounted.grade_eq {p q : Pool} (h : p.Recounted q) (n : Nat) :
    q.grade n = p.grade n := by
  have hgrade : ∀ p : Pool, p.grade n = ((p.slot n).map (·.grade)).getD Grade.flat := by
    intro p
    unfold Pool.grade
    cases p.slot n <;> rfl
  rw [hgrade, hgrade, h.grade n]

/-- A refresh reads the grades alone (R130). -/
theorem refreshContexts_controller (h : s.pool.Recounted t.pool) :
    t.refreshContexts.controller = refreshed s t.controller := by
  have hrefresh : Context.refresh t.pool = Context.refresh s.pool := by
    funext c
    unfold Context.refresh
    rw [h.grade_eq]
  rw [State.refreshContexts, refreshed, hrefresh]

/-- Counting the fields of a dissolve leaves every grade (R123). -/
theorem State.recounted_advanceDissolve : s.pool.Recounted s.advanceDissolve.pool := by
  unfold State.advanceDissolve
  repeat' split
  · exact .refl _
  · exact State.recounted_completeDissolve
  · exact .refl _

/-- The controller after the count of R123. -/
theorem State.advanceDissolve_controller : s.advanceDissolve.controller = counted s.controller := by
  unfold State.advanceDissolve counted Controller.running State.completeDissolve
  cases hincoming : s.controller.incoming with
  | none => rfl
  | some i =>
    rw [if_pos Option.isSome_some]
    dsimp only
    split
    next => simp [hincoming]
    next => rfl

/-- A CUT leaves every grade (R127). -/
theorem State.recounted_cutTo : s.pool.Recounted (s.cutTo r).pool :=
  State.recounted_completeDissolve.trans (Pool.recounted_claim.trans Pool.recounted_release)

/-- A DISSOLVE leaves every grade (R128). -/
theorem State.recounted_dissolveTo : s.pool.Recounted (s.dissolveTo r).pool :=
  State.recounted_completeDissolve.trans Pool.recounted_claim

/-- The controller after a CUT (R127). -/
theorem State.cutTo_controller : (s.cutTo r).controller = { completed s.controller with
    current := ⟨r.slot, s.pool.grade r.slot, false⟩, sceneStart := r.start } := by
  rw [State.cutTo, State.completeDissolve_controller, State.recounted_completeDissolve.grade_eq]

/-- The controller after a DISSOLVE (R128). -/
theorem State.dissolveTo_controller : (s.dissolveTo r).controller = { completed s.controller with
    incoming := some ⟨r.slot, s.pool.grade r.slot, false⟩
    length := r.length, count := 1, sceneStart := r.start } := by
  rw [State.dissolveTo, State.completeDissolve_controller, State.recounted_completeDissolve.grade_eq]

/-- A lookup leaves every grade (R125). -/
theorem State.recounted_lookUp : s.pool.Recounted (s.lookUp b f).pool := by
  unfold State.lookUp State.fireTransition
  dsimp only
  split
  next =>
    split
    next => simpa using State.recounted_cutTo
    next => simpa using State.recounted_dissolveTo
  next => exact .refl _

/-- The controller's boundary work leaves every grade (R123 to R130). -/
theorem State.recounted_controllerBoundary : s.pool.Recounted (s.controllerBoundary b).pool := by
  unfold State.controllerBoundary
  dsimp only
  refine State.recounted_advanceDissolve.trans ?_
  split
  next => exact State.recounted_completeDissolve
  next =>
    split
    next => exact State.recounted_lookUp
    next => exact .refl _

/-! ## Without a lookup -/

/-- The count of R123 does not touch what the engine state is read from. -/
theorem State.advanceDissolve_engineState : s.advanceDissolve.engineState = s.engineState := by
  simp [State.engineState]

/-- In HOLD the choice of scene is kept (R124). -/
theorem State.controllerBoundary_hold (h : s.engineState = .hold) :
    s.controllerBoundary b = s.advanceDissolve.keepScene.refreshContexts := by
  rw [State.controllerBoundary, State.advanceDissolve_engineState, if_pos h]

/-- With the frame unknown the controller counts alone (R125). -/
theorem State.controllerBoundary_unknown (h : s.engineState ≠ .hold)
    (hcurrent : s.follower.current = none) :
    s.controllerBoundary b = s.advanceDissolve.refreshContexts := by
  have hadvanced : s.advanceDissolve.follower.current = none := by simpa using hcurrent
  rw [State.controllerBoundary, State.advanceDissolve_engineState, if_neg h, hadvanced]

/-- In any other case the current frame's scene is looked up (R125). -/
theorem State.controllerBoundary_lookUp (h : s.engineState ≠ .hold)
    (hcurrent : s.follower.current = some f) :
    s.controllerBoundary b = (s.advanceDissolve.lookUp b f).refreshContexts := by
  have hadvanced : s.advanceDissolve.follower.current = some f := by simpa using hcurrent
  rw [State.controllerBoundary, State.advanceDissolve_engineState, if_neg h, hadvanced]

end

/-- Settles O40: the count, the completion and the refresh, each by its own equation. -/
theorem controllerWithoutLookup : Obligations.ControllerWithoutLookup := by
  unfold Obligations.ControllerWithoutLookup
  intro arrival s
  refine ⟨fun hhold => ?_, fun hhold hunknown => ?_, fun hnone => ⟨fun n => ?_, ?_⟩⟩
  · have hkept : s.advanceDissolve.keepScene.controller =
        { completed (counted s.controller) with holdExit := true } := by
      rw [State.keepScene, State.completeDissolve_controller, State.advanceDissolve_controller]
    have hpool : s.pool.Recounted s.advanceDissolve.keepScene.pool :=
      State.recounted_advanceDissolve.trans State.recounted_completeDissolve
    rw [State.controllerBoundary_hold hhold, refreshContexts_controller hpool, hkept]
  · rw [State.controllerBoundary_unknown hhold hunknown,
      refreshContexts_controller State.recounted_advanceDissolve, State.advanceDissolve_controller]
  · exact gradeOf_recounted State.recounted_controllerBoundary n
  · by_cases hhold : s.engineState = .hold
    · rw [State.controllerBoundary_hold hhold, State.refreshContexts, State.keepScene_eq,
        State.advanceDissolve_eq]
    · rw [State.controllerBoundary_unknown hhold (hnone.resolve_left hhold), State.refreshContexts,
        State.advanceDissolve_eq]

/-! ## With a lookup -/

section
variable {s : State} {r : Scene} {f : CurrentFrame} {b holdExit : Bool} {c : Controller}

/-- When a transition is due (R125). -/
theorem Controller.fires_iff : c.fires r = true ↔
    r.start ≠ c.sceneStart ∨ (c.incoming = none ∧ r.slot ≠ c.current.slot) := by
  simp [Controller.fires, Controller.running]

/-- When a transition is a DISSOLVE (R126). -/
theorem transitionKind_iff : transitionKind b f r holdExit = .dissolve ↔
    b = true ∧ f.dir = .fwd ∧ f.speed = .play ∧ f.frame = r.start ∧ r.trans = .dissolve ∧
      holdExit = false := by
  unfold transitionKind
  split
  next h => simpa [and_assoc] using h
  next h => simpa [and_assoc] using h

/-- The contexts after a transition: those of a CUT or of a DISSOLVE (R127, R128). -/
theorem State.lookUp_controller (hfires : s.controller.fires (sceneOf s.scenes f.frame) = true)
    (hr : r = sceneOf s.scenes f.frame) :
    (transitionKind b f r s.controller.holdExit = .cut →
      (s.lookUp b f).controller = { (s.cutTo r).controller with holdExit := false }) ∧
    (transitionKind b f r s.controller.holdExit = .dissolve →
      (s.lookUp b f).controller = { (s.dissolveTo r).controller with holdExit := false }) := by
  subst hr
  refine ⟨fun hkind => ?_, fun hkind => ?_⟩ <;>
    rw [State.lookUp, if_pos hfires, State.fireTransition, hkind] <;> simp

/-- What SCENE ENTERED does to line and latches (R129). -/
theorem State.reportScene_congr {t : State} {k : Transition} (hstraps : t.straps = s.straps)
    (henables : t.enables = s.enables) (hline : t.line = s.line) (hlatches : t.latches = s.latches)
    (hfollower : t.follower = s.follower) :
    (t.reportScene r f k).line = (s.reportScene r f k).line ∧
    (t.reportScene r f k).latches = (s.reportScene r f k).latches := by
  have hcue : t.sceneEnteredCue r f k = s.sceneEnteredCue r f k := by
    rw [State.sceneEnteredCue, State.sceneEnteredCue, hfollower]
  have hoffer := State.offer_congr (s.sceneEnteredCue r f k) hstraps henables hline hlatches
  unfold State.reportScene State.reportsSceneEntered
  rw [henables, hcue]
  split
  next => exact hoffer
  next => exact ⟨hline, hlatches⟩

/-- The line after a transition is that after the offer of SCENE ENTERED (R129). -/
theorem State.lookUp_line (hfires : s.controller.fires (sceneOf s.scenes f.frame) = true)
    (hr : r = sceneOf s.scenes f.frame) {k : Transition}
    (hkind : transitionKind b f r s.controller.holdExit = k) :
    (s.lookUp b f).line = (s.reportScene r f k).line ∧
    (s.lookUp b f).latches = (s.reportScene r f k).latches := by
  subst hr
  rw [State.lookUp, if_pos hfires, State.fireTransition, hkind]
  cases k with
  | cut => exact State.reportScene_congr (by simp) (by simp) (by simp) (by simp) (by simp)
  | dissolve => exact State.reportScene_congr (by simp) (by simp) (by simp) (by simp) (by simp)

end

/-- The count of R123 leaves the hold-exit mark. -/
theorem counted_holdExit (c : Controller) : (counted c).holdExit = c.holdExit := by
  unfold counted
  split
  next => rfl
  next => split <;> rfl

/-- No dissolve runs once it is complete (R123). -/
theorem completed_incoming (c : Controller) : (completed c).incoming = none := by
  unfold completed
  split
  next h => exact h
  next => rfl

/-- The completion and the clearing of the hold-exit mark do not meet. -/
theorem completed_noExit (c : Controller) :
    completed { c with holdExit := false } = { completed c with holdExit := false } := by
  obtain ⟨current, incoming, start, length, count, holdExit⟩ := c
  cases incoming <;> rfl

/-- Settles O41: what fires is read after the count of R123, and the kind of transition from the five conditions. -/
theorem controllerLookup : Obligations.ControllerLookup := by
  unfold Obligations.ControllerLookup
  intro arrival s f r hhold hcurrent hr c t fires dissolves
  have hscenes : s.advanceDissolve.scenes = s.scenes := by simp
  have hr' : r = sceneOf s.advanceDissolve.scenes f.frame := hscenes ▸ hr
  have hadvanced := s.advanceDissolve_controller
  have hfires : s.advanceDissolve.controller.fires r = true ↔ fires := by
    rw [hadvanced]
    exact Controller.fires_iff
  have hexit : s.advanceDissolve.controller.holdExit = s.controller.holdExit := by
    rw [hadvanced, counted_holdExit]
  have hdissolves : transitionKind arrival f r s.advanceDissolve.controller.holdExit = .dissolve ↔
      dissolves := by
    rw [hexit]
    exact transitionKind_iff
  have hpool : s.pool.Recounted (s.advanceDissolve.lookUp arrival f).pool :=
    State.recounted_advanceDissolve.trans State.recounted_lookUp
  have ht : t = (s.advanceDissolve.lookUp arrival f).refreshContexts :=
    State.controllerBoundary_lookUp hhold hcurrent
  have hcontroller : t.controller = refreshed s (s.advanceDissolve.lookUp arrival f).controller := by
    rw [ht]
    exact refreshContexts_controller hpool
  have hline : t.line = (s.advanceDissolve.lookUp arrival f).line ∧
      t.latches = (s.advanceDissolve.lookUp arrival f).latches := by
    rw [ht]
    exact ⟨rfl, rfl⟩
  refine ⟨fun hnot => ?none, fun hfire hcut => ?cut, fun hfire hdissolve => ?dissolve,
    fun hfire => ?report, gradeOf_recounted State.recounted_controllerBoundary, ?frame⟩
  case none =>
    have hkept : s.advanceDissolve.lookUp arrival f = { s.advanceDissolve with
        controller := { s.advanceDissolve.controller with holdExit := false } } := by
      rw [State.lookUp, ← hr', if_neg (mt hfires.mp hnot)]
    rw [hcontroller, hline.1, hline.2, hkept, hadvanced]
    exact ⟨rfl, by simp, by simp⟩
  case cut =>
    have hkind : transitionKind arrival f r s.advanceDissolve.controller.holdExit = .cut := by
      cases h : transitionKind arrival f r s.advanceDissolve.controller.holdExit with
      | cut => rfl
      | dissolve => exact absurd (hdissolves.mp h) hcut
    rw [hcontroller, (State.lookUp_controller (hr' ▸ hfires.mpr hfire) hr').1 hkind,
      State.cutTo_controller, hadvanced, State.recounted_advanceDissolve.grade_eq,
      completed_noExit]
    simp [refreshed, Context.refresh, completed_incoming]
  case dissolve =>
    rw [hcontroller, (State.lookUp_controller (hr' ▸ hfires.mpr hfire) hr').2
      (hdissolves.mpr hdissolve), State.dissolveTo_controller, hadvanced,
      State.recounted_advanceDissolve.grade_eq, completed_noExit]
  case report =>
    obtain ⟨hlookLine, hlookLatches⟩ :=
      State.lookUp_line (b := arrival) (hr' ▸ hfires.mpr hfire) hr' rfl
    obtain ⟨hreportLine, hreportLatches⟩ := State.reportScene_congr (r := r) (f := f)
      (k := transitionKind arrival f r s.advanceDissolve.controller.holdExit)
      (s := s) (t := s.advanceDissolve) (by simp) (by simp) (by simp) (by simp) (by simp)
    rw [hline.1, hline.2, hlookLine, hlookLatches, hreportLine, hreportLatches]
    refine ⟨fun hoff => ?_, fun hon => ⟨_, hdissolves, ?_⟩⟩
    · rw [State.reportScene, if_neg (Bool.eq_false_iff.mp hoff)]
      exact ⟨rfl, rfl⟩
    · rw [State.reportScene, if_pos hon]
      exact ⟨rfl, rfl⟩
  case frame => exact (congrArg (fun x : State => { x with
      pool := s.pool, controller := s.controller, line := s.line, latches := s.latches })
      (State.controllerBoundary_eq s arrival)).trans rfl

end Sys2Proof.Machine

/-! A field boundary: what its blocks offer to the line, and its work block by block (R160). -/

namespace Sys2Proof.Machine

open Safety

/-! ## Offers -/

/-- From `s` to `t` at most `n` cues were offered to the line: it keeps what it has received, and a queue with room for all of them keeps its cues and grows by no more. -/
structure State.Offers (n : Nat) (s t : State) : Prop where
  kept : s.LineKept t
  room : s.line.mute = false → s.line.tx.length + n ≤ 8 →
    (∀ e ∈ s.line.tx, e ∈ t.line.tx) ∧ t.line.tx.length ≤ s.line.tx.length + n

section
variable {s t u : State} {m n : Nat} {b : Bool}

/-- What leaves the line offers nothing. -/
theorem State.Offers.of_eq (h : t.line = s.line) : s.Offers n t :=
  ⟨.of_eq h, fun _ _ => by rw [h]; exact ⟨fun _ he => he, Nat.le_add_right _ _⟩⟩

/-- Offers add up. -/
theorem State.Offers.trans (hst : s.Offers m t) (htu : t.Offers n u) : s.Offers (m + n) u := by
  refine ⟨hst.kept.trans htu.kept, fun hmute hroom => ?_⟩
  obtain ⟨-, -, -, -, -, hmuted⟩ := hst.kept
  obtain ⟨hmem, hlength⟩ := hst.room hmute (by omega)
  obtain ⟨hmem', hlength'⟩ := htu.room (hmuted.trans hmute) (by omega)
  exact ⟨fun e he => hmem' e (hmem e he), by omega⟩

/-- Offers are seen at the line alone. -/
theorem State.Offers.of_line (h : s.Offers n t) {x y : State} (hx : x.line = s.line)
    (hy : y.line = t.line) : x.Offers n y := by
  obtain ⟨hkept, hroom⟩ := h
  refine ⟨?_, ?_⟩
  · rwa [State.LineKept, hx, hy]
  · rwa [hx, hy]

/-- One offer (R178). -/
theorem State.offers_offer (c : TxCue) : s.Offers 1 (s.offer c) := by
  refine ⟨State.lineKept_offer c, fun hmute hroom => ?_⟩
  obtain ⟨-, -, htx, -⟩ := Line.contend_fields s.straps.station
    { s.line with tx := insertTx ⟨c, s.line.nextJoin, 0⟩ s.line.tx, nextJoin := s.line.nextJoin + 1 }
  have hjoined : (s.offer c).line.tx = insertTx ⟨c, s.line.nextJoin, 0⟩ s.line.tx := by
    rw [State.offer_of_room hmute hroom]
    exact htx
  rw [hjoined, length_insertTx]
  exact ⟨fun e he => (mem_insertTx _ _ _).mpr (.inr he), Nat.le_refl _⟩

/-- A cue offered to a queue with room joins it (R177). -/
theorem State.mem_offer_of_room (c : TxCue) (hmute : s.line.mute = false)
    (hroom : s.line.tx.length < 8) : ∃ e ∈ (s.offer c).line.tx, e.cue = c := by
  obtain ⟨-, -, htx, -⟩ := Line.contend_fields s.straps.station
    { s.line with tx := insertTx ⟨c, s.line.nextJoin, 0⟩ s.line.tx, nextJoin := s.line.nextJoin + 1 }
  refine ⟨⟨c, s.line.nextJoin, 0⟩, ?_, rfl⟩
  rw [State.offer_of_room hmute hroom]
  exact htx ▸ (mem_insertTx _ _ _).mpr (.inl rfl)

/-- An event offers at most its FAULT (R191). -/
theorem State.offers_raise (l : Latch) : s.Offers 1 (s.raise l) := by
  unfold State.raise
  split
  next => exact .of_eq rfl
  next =>
    dsimp only
    split
    next => exact (State.offers_offer (s := s.latch l) _).of_line (by simp) rfl
    next => exact .of_eq (by simp)

/-- A proposal offers at most TABLE_FULL's FAULT (R81). -/
theorem State.offers_propose (f : Nat) (o : Origin) : s.Offers 1 (s.propose f o) := by
  rcases s.propose_cases f o with heq | heq | ⟨-, -, heq⟩ <;> rw [heq]
  · exact .of_eq rfl
  · exact State.offers_raise _
  · exact .of_eq (by simp)

/-- The detector's report is at most one offer (R148). -/
theorem State.offers_cutReported (v : Measure) : s.Offers 1 (s.cutReported v) := by
  unfold State.cutReported
  split
  next => exact State.offers_offer _
  next => exact .of_eq rfl

/-- After the detector's report come at most one offer more (R146). -/
theorem State.offers_fired (v : Measure) : (s.cutReported v).Offers 1 (s.fire v) := by
  rw [State.fire_eq_propose]
  split
  next => exact State.offers_propose _ _
  next => exact .of_eq rfl

/-- A firing is at most two offers (R146, R148). -/
theorem State.offers_fire (v : Measure) : s.Offers 2 (s.fire v) :=
  (State.offers_cutReported v).trans (State.offers_fired v)

/-- The controller offers at most SCENE ENTERED (R129). -/
theorem State.offers_controllerBoundary : s.Offers 1 (s.controllerBoundary b) := by
  have hreport : ∀ (x : State) (r : Scene) (f : CurrentFrame) (k : Transition),
      x.Offers 1 (x.reportScene r f k) := by
    intro x r f k
    unfold State.reportScene
    split
    next => exact State.offers_offer _
    next => exact .of_eq rfl
  have hlook : ∀ (x : State) (f : CurrentFrame), x.Offers 1 (x.lookUp b f) := by
    intro x f
    unfold State.lookUp State.fireTransition
    dsimp only
    split
    next =>
      split
      next => exact (hreport (x.cutTo _) _ _ _).of_line (by simp) rfl
      next => exact (hreport (x.dissolveTo _) _ _ _).of_line (by simp) rfl
    next => exact .of_eq rfl
  unfold State.controllerBoundary
  dsimp only
  split
  next => exact .of_eq (by simp [State.refreshContexts])
  next =>
    split
    next f _ => exact (hlook s.advanceDissolve f).of_line (by simp) rfl
    next => exact .of_eq (by simp [State.refreshContexts])

/-- The follower offers at most COAST_HOLD's FAULT (R114). -/
theorem State.offers_followBoundary : s.Offers 1 s.followBoundary := by
  unfold State.followBoundary
  dsimp only
  split
  next =>
    exact (State.offers_raise (s := { s with follower := s.follower.advance.settle }) _).of_line
      rfl rfl
  next => exact .of_eq rfl

/-- An install offers at most the requester's DONE (R39). -/
theorem State.offers_installBoundary : s.Offers 1 s.installBoundary := by
  unfold State.installBoundary
  split
  next target _ _ =>
    dsimp only
    split
    next => exact (State.offers_offer _).of_line (by simp) rfl
    next => exact .of_eq (by simp)
  next => exact .of_eq rfl

/-- Firing and controller offer at most three cues (R147). -/
theorem State.offers_fireAndControl (o : Option Measure) : s.Offers 3 (s.fireAndControl o b) := by
  have hcounted : s.Offers 0 { s with freeCount := s.freeCount + 1 } := .of_eq rfl
  rcases s.fireAndControl_cases o b with ⟨-, heq⟩ | ⟨v, -, heq | heq⟩ <;> rw [heq]
  · exact State.Offers.trans (m := 2) (.of_eq rfl) State.offers_controllerBoundary
  · exact (hcounted.trans (State.offers_fire v)).trans State.offers_controllerBoundary
  · exact (hcounted.trans State.offers_controllerBoundary).trans (State.offers_fire v)

/-! ## Grades -/

/-- A proposal leaves every grade (R81). -/
theorem State.recounted_propose (f : Nat) (o : Origin) : s.pool.Recounted (s.propose f o).pool := by
  rcases s.propose_cases f o with heq | heq | ⟨-, -, heq⟩ <;> rw [heq]
  · exact .refl _
  · simpa using Pool.Recounted.refl s.pool
  · exact (State.recounted_push _).trans Pool.recounted_claim

/-- A firing leaves every grade (R146). -/
theorem State.recounted_fire (v : Measure) : s.pool.Recounted (s.fire v).pool := by
  have hreported : (s.cutReported v).pool = s.pool := by
    unfold State.cutReported
    split <;> simp
  rw [State.fire_eq_propose]
  split
  next => exact hreported ▸ State.recounted_propose _ _
  next => exact hreported ▸ .refl _

/-- Firing and controller leave every grade (R147). -/
theorem State.recounted_fireAndControl (o : Option Measure) :
    s.pool.Recounted (s.fireAndControl o b).pool := by
  rcases s.fireAndControl_cases o b with ⟨-, heq⟩ | ⟨v, -, heq | heq⟩ <;> rw [heq]
  · exact State.recounted_controllerBoundary
  · exact (State.recounted_fire (s := { s with freeCount := s.freeCount + 1 }) v).trans
      State.recounted_controllerBoundary
  · exact (State.recounted_controllerBoundary (s := { s with freeCount := s.freeCount + 1 })).trans
      (State.recounted_fire v)

end

end Sys2Proof.Machine

/-! What a field boundary leaves of each block (R160), and the snapshot it takes (R3). -/

namespace Sys2Proof.Machine

open Safety

/-! ## A boundary, block by block -/

/-- The state in which the boundary from `s` to `t` does its work: lock monitor and video are the sync's (R156). -/
def State.synced (s t : State) : State := { s with raster := t.raster, video := t.video }

section
variable {s t u : State} {p : Bool}

/-- A boundary is the boundary work under lock, with the sync's parity (R153, R160). -/
theorem synced_of_boundary (h : Boundary p s t) :
    t = (s.synced t).fieldBoundary ∧ (s.synced t).raster.locked = true ∧
    t.video = { s.video with parity := p } := by
  obtain ⟨hrunning, hexec, hlocked⟩ := h
  have hsync : s.fieldSync p = t :=
    Host.Outcome.next.inj ((whenRunning_running s (State.fieldSync p) hrunning).symm.trans hexec)
  exact ⟨fieldBoundary_of_boundary ⟨hrunning, hexec, hlocked⟩, hlocked,
    hsync ▸ (State.fieldSync_raster p).2⟩

/-- The work of follower, detector and controller leaves everything else, and makes at most one free choice (R160). -/
theorem State.followedWork_fields :
    u.followedWork.straps = u.straps ∧ u.followedWork.raster = u.raster ∧
    u.followedWork.curves = u.curves ∧ u.followedWork.shadeH = u.shadeH ∧
    u.followedWork.shadeV = u.shadeV ∧ u.followedWork.loader = u.loader ∧
    u.followedWork.follower = u.follower.advance.settle ∧
    u.followedWork.roster = u.roster ∧ u.followedWork.rollCall = u.rollCall ∧
    u.followedWork.enables = u.enables ∧ u.followedWork.profile = u.profile := by
  have hfollower := State.followBoundary_follower (s := u)
  simp [State.followedWork, hfollower]

/-- The fields that a boundary leaves as follower, detector and controller leave them (R160). -/
theorem State.fieldBoundary_kept :
    u.fieldBoundary.controller = u.followedWork.controller ∧
    u.fieldBoundary.pool = u.followedWork.pool ∧
    u.fieldBoundary.scenes = u.followedWork.scenes ∧
    u.fieldBoundary.history = u.followedWork.history ∧
    u.fieldBoundary.freeCount = u.followedWork.freeCount ∧
    u.fieldBoundary.follower = u.followedWork.follower := by
  simp [State.fieldBoundary_eq, State.installed, State.filmTaken]

/-- What a boundary leaves alone (R160). -/
theorem State.fieldBoundary_frame :
    u.fieldBoundary.straps = u.straps ∧ u.fieldBoundary.roster = u.roster ∧
    u.fieldBoundary.rollCall = u.rollCall ∧ u.fieldBoundary.enables = u.enables ∧
    u.fieldBoundary.profile = { u.profile with filmInEffect := u.profile.filmRequested } := by
  obtain ⟨hstraps, -, -, -, -, -, -, hroster, hroll, henables, hprofile⟩ :=
    State.followedWork_fields (u := u)
  simp [State.fieldBoundary_eq, State.installed, State.filmTaken, hstraps, hroster, hroll, henables,
    hprofile]

/-- With no install pending the loader does nothing at a boundary (R39). -/
theorem State.installBoundary_of_none (h : u.loader.state ≠ .installPending) :
    u.installBoundary = u := by
  unfold State.installBoundary
  split
  next hstate _ => exact absurd hstate h
  next => rfl

/-- With no install pending line, latches and loader are as detector and controller leave them (R160). -/
theorem State.fieldBoundary_line (h : u.loader.state ≠ .installPending) :
    u.fieldBoundary.line = u.followedWork.line ∧
    u.fieldBoundary.latches = u.followedWork.latches ∧ u.fieldBoundary.loader = u.loader := by
  obtain ⟨-, -, -, -, -, hloader, -⟩ := State.followedWork_fields (u := u)
  have hinstalled : u.installed = u.followedWork.filmTaken :=
    State.installBoundary_of_none (u := u.followedWork.filmTaken) (by
      rw [State.filmTaken, hloader]
      exact h)
  rw [State.fieldBoundary_eq, hinstalled]
  exact ⟨rfl, rfl, hloader⟩

/-- The work of a boundary's blocks is the controller's on the followed state, and the firing's before or after it (R147, log 7). -/
theorem followedWork_of_boundary (h : Boundary p s t) :
    FollowedWork s t (s.synced t).followedWork := by
  obtain ⟨heq, -⟩ := synced_of_boundary h
  have hcount : t.freeCount = (s.synced t).followedWork.freeCount := by
    conv_lhs => rw [heq]
    exact State.fieldBoundary_kept.2.2.2.2.1
  unfold FollowedWork
  rcases State.fireAndControl_cases (s.synced t).firing (s.synced t).arrives
    (s.synced t).followBoundary with ⟨hnone, hwork⟩ | ⟨v, hsome, hwork⟩
  · have hkept : t.freeCount = (s.synced t).followBoundary.freeCount := by
      rw [hcount, State.followedWork, hwork]
      simp
    refine ⟨fun _ => ?_, fun m hm => ?_⟩
    · rw [hkept]
      exact hwork
    · exact absurd (hnone.symm.trans hm) nofun
  · have hchosen : t.freeCount = (s.synced t).followBoundary.freeCount + 1 := by
      rw [hcount, State.followedWork]
      rcases hwork with hwork | hwork <;> rw [hwork] <;> simp
    refine ⟨fun hnone => absurd (hsome.symm.trans hnone) nofun, fun m hm => ?_⟩
    obtain rfl : v = m := Option.some.inj (hsome.symm.trans hm)
    rw [hchosen]
    exact hwork

/-! ## Follower and detector -/

/-- The follower keeps count and CONSOLE cause as it settles the frame (R109). -/
theorem Follower.settle_kept (f : Follower) :
    f.settle.fieldCount = f.fieldCount ∧ f.settle.holdConsole = f.holdConsole := by
  unfold Follower.settle
  split
  next => exact ⟨rfl, rfl⟩
  next =>
    unfold Follower.carryOn
    split
    next => exact ⟨rfl, rfl⟩
    next =>
      unfold Follower.coastOn
      repeat' split
      all_goals exact ⟨rfl, rfl⟩

/-- An arrival is the schedule's head with the new count, and it becomes current (R108, R112). -/
theorem Follower.due_cases (f : Follower) :
    (∃ e, f.schedule.head? = some e ∧ e.first = f.fieldCount ∧ f.due = some e ∧
      f.settle.current = some ⟨e.frame, e.dir, e.speed, e.span, 1⟩) ∨
    (f.due = none ∧ ∀ e, f.schedule.head? = some e → e.first ≠ f.fieldCount) := by
  cases hschedule : f.schedule with
  | nil => exact .inr ⟨by rw [Follower.due, hschedule], nofun⟩
  | cons e rest =>
    by_cases hfirst : e.first = f.fieldCount
    · refine .inl ⟨e, rfl, hfirst, ?_, ?_⟩
      · rw [Follower.due, hschedule]
        exact if_pos hfirst
      · rw [Follower.settle_of_due hschedule hfirst]
    · refine .inr ⟨?_, fun x hx => ?_⟩
      · rw [Follower.due, hschedule]
        exact if_neg hfirst
      · exact Option.some.inj hx ▸ hfirst

end

end Sys2Proof.Machine

/-! The field boundary as a whole (R160), and the snapshot it takes (R3). -/

namespace Sys2Proof.Machine

open Safety

section
variable {s t u : State} {p : Bool}

/-! ## What a boundary leaves of table, line and detector -/

/-- A proposal keeps every record of the table (R81). -/
theorem State.mem_propose {r : Scene} (f : Nat) (o : Origin) (hr : r ∈ s.scenes) :
    r ∈ (s.propose f o).scenes := by
  rcases s.propose_cases f o with heq | heq | ⟨hfree, -, heq⟩ <;> rw [heq]
  · exact hr
  · simpa using hr
  · simp only [State.insertRecord, State.push_fields]
    exact (mem_insertScene (sceneAt_none.mp hfree)).mpr (.inr hr)

/-- A firing keeps every record of the table (R146). -/
theorem State.mem_fire {r : Scene} (v : Measure) (hr : r ∈ s.scenes) : r ∈ (s.fire v).scenes := by
  have hreported : r ∈ (s.cutReported v).scenes := by
    rw [State.lineWork_cutReported (s := s) v]
    exact hr
  rw [State.fire_eq_propose]
  split
  next => exact State.mem_propose _ _ hreported
  next => exact hreported

/-- The boundary work of follower, detector and controller keeps every record of the table (R146, R160). -/
theorem State.mem_followedWork {r : Scene} (hr : r ∈ u.scenes) : r ∈ u.followedWork.scenes := by
  have hfollowed : r ∈ u.followBoundary.scenes := by simpa using hr
  rw [State.followedWork]
  rcases u.followBoundary.fireAndControl_cases u.firing u.arrives with
    ⟨-, heq⟩ | ⟨v, -, heq | heq⟩ <;> rw [heq]
  · simpa using hfollowed
  · simpa using State.mem_fire (s := { u.followBoundary with
        freeCount := u.followBoundary.freeCount + 1 }) v hfollowed
  · exact State.mem_fire v (by simpa using hfollowed)

/-- The work of follower, detector and controller offers at most four cues (R160). -/
theorem State.offers_followedWork : u.Offers 4 u.followedWork :=
  State.Offers.trans (m := 1) State.offers_followBoundary (State.offers_fireAndControl _)

/-- A boundary offers at most five cues (R160). -/
theorem State.offers_fieldBoundary : u.Offers 5 u.fieldBoundary := by
  have hfilm : u.Offers 4 u.followedWork.filmTaken := State.offers_followedWork.of_line rfl rfl
  exact (hfilm.trans (n := 1) State.offers_installBoundary).of_line rfl (by rw [State.fieldBoundary_eq]; rfl)

/-- A boundary leaves every grade (R160). -/
theorem State.gradeOf_fieldBoundary (n : Nat) : gradeOf u.fieldBoundary n = gradeOf u n := by
  have hpool : u.followBoundary.pool.Recounted u.followedWork.pool :=
    State.recounted_fireAndControl u.firing
  have hkept : u.followBoundary.pool = u.pool := by simp
  rw [hkept] at hpool
  rw [gradeOf, State.fieldBoundary_kept.2.1]
  exact hpool.grade n

/-- The detector after a boundary: an empty histogram, measure and reference of the field closed, the capture of the field opened (R140, R141, R142). -/
theorem State.fieldBoundary_detector :
    u.fieldBoundary.detector = { u.closedDetector with
      bins := List.replicate 16 0, capture := u.fieldBoundary.fieldCapture u.arrives } := rfl

/-- The samples of a whole field (R138). -/
theorem fieldSamples_eq (std : Standard) :
    Config.fieldSamples std = if std = .s525 then 5490 else 6480 := by cases std <;> rfl

/-- The field that a boundary opens is captured exactly at an arrival (R112, R141). -/
theorem capture_of_boundary (h : Boundary p s t) :
    t.detector.capture =
      (match s.follower.schedule.head?, t.follower.current with
      | some e, some f =>
        if e.first = t.follower.fieldCount then
          some ⟨f.frame, f.dir, f.speed, t.controller.sceneStart⟩ else none
      | _, _ => none) := by
  have hfollower := boundary_follower h
  have hcapture : t.detector.capture = t.fieldCapture (s.synced t).arrives := by
    conv_lhs => rw [(synced_of_boundary h).1, State.fieldBoundary_detector]
    rw [← (synced_of_boundary h).1]
  have hcount : t.follower.fieldCount = s.follower.advance.fieldCount := by
    rw [hfollower, (Follower.settle_kept _).1]
  have harrives : (s.synced t).arrives = s.follower.advance.due.isSome := rfl
  have hschedule : s.follower.advance.schedule = s.follower.schedule := rfl
  rw [hcapture, harrives, hcount]
  rcases s.follower.advance.due_cases with ⟨e, hhead, hfirst, hdue, hcurrent⟩ | ⟨hdue, hlate⟩
  · have hopened : t.fieldCapture true =
        some ⟨e.frame, e.dir, e.speed, t.controller.sceneStart⟩ := by
      unfold State.fieldCapture
      rw [hfollower, hcurrent]
    rw [hdue, ← hschedule, hhead, hfollower, hcurrent]
    exact hopened.trans (if_pos hfirst).symm
  · rw [hdue]
    cases hhead : s.follower.schedule.head? with
    | none => rfl
    | some e =>
      cases t.follower.current with
      | none => rfl
      | some f => exact (if_neg (hlate e (hschedule ▸ hhead))).symm

/-- The reference is renewed by a whole field with a valid capture, and by nothing else (R142). -/
theorem closedDetector_reference :
    u.closedDetector.reference =
      (match u.detector.capture with
      | some k =>
        if u.detector.bins.sum = (if u.straps.standard = .s525 then 5490 else 6480) then
          some ⟨k.frame, u.detector.bins⟩ else u.detector.reference
      | none => u.detector.reference) := by
  rw [← fieldSamples_eq, State.closedDetector, State.wholeCapture]
  by_cases hwhole : u.detector.bins.sum = Config.fieldSamples u.straps.standard
  · rw [if_pos hwhole]
    cases u.detector.capture with
    | none => rfl
    | some k => exact (if_pos hwhole).symm
  · rw [if_neg hwhole]
    cases u.detector.capture with
    | none => rfl
    | some k => exact (if_neg hwhole).symm

/-- Under lock black ends at a boundary unless the roll-call window runs (R24). -/
theorem State.fieldBoundary_black (hlocked : u.raster.locked = true) :
    u.fieldBoundary.forcedBlack = u.rollCall.isSome := by
  have hraster : u.installed.raster = u.raster := by
    simp [State.installed, State.filmTaken, State.followedWork]
  have hwindow : u.installed.rollCall = u.rollCall := by
    simp [State.installed, State.filmTaken, State.followedWork]
  rw [State.fieldBoundary_eq]
  unfold State.engineState
  rw [hraster, hwindow, hlocked]
  cases u.rollCall with
  | some n => rfl
  | none =>
    simp only [Option.isSome_none, Bool.false_eq_true, if_false, Bool.not_true]
    repeat' split
    all_goals rfl

end

/-- Settles O38: a boundary is its blocks' work on the state the sync left, each block's part read off. -/
theorem boundaryWork : Obligations.BoundaryWork := by
  unfold Obligations.BoundaryWork
  intro p s t h
  obtain ⟨heq, hlocked, hvideo⟩ := synced_of_boundary h
  obtain ⟨hcontroller, hpool, hscenes, hhistory, -, -⟩ :=
    State.fieldBoundary_kept (u := s.synced t)
  obtain ⟨hstraps, hroster, hroll, henables, hprofile⟩ :=
    State.fieldBoundary_frame (u := s.synced t)
  obtain ⟨hfifo, -, hflight, -, -, hmute⟩ := (State.offers_fieldBoundary (u := s.synced t)).kept
  have hdetector := State.fieldBoundary_detector (u := s.synced t)
  have hblack := State.fieldBoundary_black (u := s.synced t) hlocked
  have hgrade := fun n => State.gradeOf_fieldBoundary (u := s.synced t) n
  have hquiet := fun hnone => State.fieldBoundary_line (u := s.synced t) hnone
  have hrecords := fun r hr => State.mem_followedWork (u := s.synced t) (r := r) hr
  have hfollower := boundary_follower h
  obtain ⟨hcount, hconsole⟩ := Follower.settle_kept s.follower.advance
  rw [← heq] at hcontroller hpool hscenes hhistory hstraps hroster hroll henables hprofile
  rw [← heq] at hfifo hflight hmute hdetector hblack hquiet
  refine ⟨⟨(s.synced t).followedWork, followedWork_of_boundary h, hcontroller, hpool, hscenes,
    hhistory, fun hnone => ⟨(hquiet hnone).1, (hquiet hnone).2.1⟩⟩,
    fun hnone => (hquiet hnone).2.2, ?_, hprofile, hblack, ?_, capture_of_boundary h, ?_, ?_,
    hstraps, hroster, hroll, henables, hfifo, hmute, hflight, hvideo, ?_, ?_, ?_⟩
  · rw [hfollower, hcount]
    rfl
  · rw [hdetector]
  · rw [hdetector]
    exact closedDetector_reference
  · intro n
    conv_lhs => rw [heq]
    exact hgrade n
  · rw [hfollower, Follower.settle_reel]
    rfl
  · rw [hfollower, hconsole]
    rfl
  · intro r hr
    rw [hscenes]
    exact hrecords r hr

/-! ## The snapshot -/

section
variable {s t u : State} {p : Bool}

/-- Outside RESET a command that is no boundary leaves the snapshot (R3). -/
theorem snapshot_of_deed {c : Instr} (h : Deed s c t) (hreset : ¬ IsReset c)
    (hnone : ∀ q, c = .fieldSync q → t.raster.locked = false) : t.snapshot = s.snapshot := by
  cases h with
  | powerOn straps => exact absurd (.inr ⟨straps, rfl⟩) hreset
  | asserted => exact absurd (.inl rfl) hreset
  | cues _ _ hchain =>
    obtain ⟨-, -, -, -, hsnapshot, -⟩ := Chain.framed hchain
    exact hsnapshot
  | fieldSync q =>
    rcases s.fieldSync_cases q with ⟨r, v, hlock, -, heq⟩ | ⟨r, v, -, -, -, heq⟩ | ⟨-, heq⟩
    · have hlocked : (s.fieldSync q).raster.locked = true := by
        rw [heq]
        exact (congrArg Raster.locked (State.fieldBoundary_fields.1)).trans hlock
      exact absurd (hlocked.symm.trans (hnone q rfl)) nofun
    · rw [heq]
    · rw [heq]
      simp [State.syncMarked, State.loseLock]
  | expiry =>
    rcases s.missingSync_cases with ⟨r, -, heq⟩ | ⟨-, heq⟩ <;> rw [heq]
    · rfl
    · simp [State.loseLock, State.expired]
  | pixelClock => simp
  | lineSync | held | windowEnd => rfl

/-- The blend weight while a dissolve runs (R130). -/
theorem Controller.weight_of_running {c : Controller} (h : c.incoming ≠ none) :
    c.weight = 256 * c.count / (c.length + 1) :=
  if_pos (Option.isSome_iff_ne_none.mpr h)

/-- The snapshot that a boundary takes is of the state it leaves (R3). -/
theorem State.fieldBoundary_snapshot : u.fieldBoundary.snapshot = u.fieldBoundary.takeSnapshot := rfl

end

/-- Settles O13: a boundary takes its snapshot last, and no cue, loss or other sync touches it. -/
theorem snapshotOnlyAtBoundary : Obligations.SnapshotOnlyAtBoundary := by
  unfold Obligations.SnapshotOnlyAtBoundary
  intro c s t hrunning hreset hexec
  split
  next hboundary =>
    obtain ⟨⟨p, rfl⟩, hlocked⟩ := hboundary
    obtain ⟨heq, -⟩ := synced_of_boundary ⟨hrunning, hexec, hlocked⟩
    obtain ⟨-, -, -, -, hprofile⟩ := State.fieldBoundary_frame (u := s.synced t)
    have hsnapshot := State.fieldBoundary_snapshot (u := s.synced t)
    rw [← heq] at hsnapshot hprofile
    rw [hsnapshot]
    unfold State.takeSnapshot
    rw [hprofile]
    exact ⟨rfl, rfl, rfl, rfl, rfl, rfl, rfl, Controller.weight_of_running⟩
  next hboundary =>
    refine snapshot_of_deed (effect_of_exec hexec).deed hreset fun q hq => ?_
    exact Bool.eq_false_iff.mpr fun hlocked => hboundary ⟨⟨q, hq⟩, hlocked⟩

end Sys2Proof.Machine

/-! An install at a boundary (R39), and the detector's work there (R142 to R148). -/

namespace Sys2Proof.Machine

open Safety

/-! ## The install -/

section
variable {s t u : State} {p : Bool} {target : LoadTarget}

/-- The target's table is the buffer after its installation, every other table as before (R39). -/
theorem State.tableOf_installTable {b : List Nat} (hlength : u.curves.length = 16)
    (hok : tableOk target b = true) (other : LoadTarget) :
    (u.installTable target b).tableOf other = if other = target then b else u.tableOf other := by
  cases target with
  | curve k =>
    obtain ⟨hlow, hhigh, -⟩ : 1 ≤ k ∧ k < 16 ∧ CurveOk b := of_decide_eq_true hok
    have htaken : u.installTable (.curve k) b = { u with curves := u.curves.set k b } :=
      if_neg (Nat.ne_of_gt hlow)
    rw [htaken]
    cases other with
    | curve n =>
      by_cases hn : n = k
      · subst hn
        rw [if_pos rfl]
        simp [State.tableOf, hlength, hhigh]
      · rw [if_neg fun h => hn (LoadTarget.curve.inj h)]
        simp [State.tableOf, List.getElem?_set_ne (Ne.symm hn)]
    | shadingH | shadingV => rfl
  | shadingH | shadingV => cases other <;> rfl

/-- The state in which a completed install offers its answer (R39). -/
def State.tableTaken (target : LoadTarget) (s : State) : State :=
  { s.installTable target s.loader.buffer with loader := Loader.idle }

/-- The answer to an install's requester (R39, Table 2-5). -/
def State.installDone (target : LoadTarget) (a : Station) (s : State) : TxCue :=
  ⟨a, .reply 0x22 .done (target.bytes ++ natBytes s.follower.fieldCount)⟩

/-- A pending install completes at the boundary, and answers its requester when there is one (R39). -/
theorem State.installBoundary_of_pending (hstate : u.loader.state = .installPending)
    (htarget : u.loader.target = some target) :
    (u.loader.requester = none → u.installBoundary = u.tableTaken target) ∧
    (∀ a, u.loader.requester = some a →
      u.installBoundary = (u.tableTaken target).offer (u.installDone target a)) := by
  unfold State.installBoundary State.tableTaken State.installDone
  rw [hstate, htarget]
  dsimp only
  cases u.loader.requester with
  | none => exact ⟨fun _ => rfl, nofun⟩
  | some a =>
    refine ⟨nofun, fun b hb => ?_⟩
    obtain rfl := Option.some.inj hb
    rfl

/-- An install leaves the line to its answer (R39). -/
theorem State.tableTaken_line :
    (u.tableTaken target).line = u.line ∧ (u.tableTaken target).latches = u.latches ∧
    (u.tableTaken target).straps = u.straps ∧ (u.tableTaken target).enables = u.enables := by
  simp [State.tableTaken]

/-- A completed install leaves the tables that the target's replacement leaves, and an idle loader (R39). -/
theorem State.installBoundary_tables (hstate : u.loader.state = .installPending)
    (htarget : u.loader.target = some target) (hlength : u.curves.length = 16)
    (hok : tableOk target u.loader.buffer = true) (other : LoadTarget) :
    u.installBoundary.tableOf other =
      (if other = target then u.loader.buffer else u.tableOf other) ∧
    u.installBoundary.loader = Loader.idle := by
  have hoffer : ∀ (x : State) (c : TxCue), (x.offer c).tableOf other = x.tableOf other ∧
      (x.offer c).loader = x.loader := by
    intro x c
    cases other <;> simp [State.tableOf]
  have htaken : (u.tableTaken target).tableOf other =
      (if other = target then u.loader.buffer else u.tableOf other) :=
    (by cases other <;> rfl : (u.tableTaken target).tableOf other =
      (u.installTable target u.loader.buffer).tableOf other).trans
      (State.tableOf_installTable hlength hok other)
  obtain ⟨hnone, hsome⟩ := State.installBoundary_of_pending hstate htarget
  cases hrequester : u.loader.requester with
  | none =>
    rw [hnone hrequester]
    exact ⟨htaken, rfl⟩
  | some a =>
    rw [hsome a hrequester, (hoffer _ _).1, (hoffer _ _).2]
    exact ⟨htaken, rfl⟩

/-- A boundary with no install pending leaves the stores (R39). -/
theorem State.fieldBoundary_stores (h : u.loader.state ≠ .installPending) :
    u.fieldBoundary.curves = u.curves ∧ u.fieldBoundary.shadeH = u.shadeH ∧
    u.fieldBoundary.shadeV = u.shadeV := by
  obtain ⟨-, -, hcurves, hshadeH, hshadeV, hloader, -⟩ := State.followedWork_fields (u := u)
  have hinstalled : u.installed = u.followedWork.filmTaken :=
    State.installBoundary_of_none (u := u.followedWork.filmTaken) (by
      rw [State.filmTaken, hloader]
      exact h)
  rw [State.fieldBoundary_eq, hinstalled]
  exact ⟨hcurves, hshadeH, hshadeV⟩

/-- Outside RESET the stores change at a boundary with a pending install alone (R27, R39). -/
theorem stores_of_deed {c : Instr} (h : Deed s c t) (hreset : ¬ IsReset c) :
    ((∃ q, c = .fieldSync q) ∧ t.raster.locked = true ∧ s.loader.state = .installPending) ∨
    (t.curves = s.curves ∧ t.shadeH = s.shadeH ∧ t.shadeV = s.shadeV) := by
  cases h with
  | powerOn straps => exact absurd (.inr ⟨straps, rfl⟩) hreset
  | asserted => exact absurd (.inl rfl) hreset
  | cues _ _ hchain =>
    obtain ⟨-, -, -, -, -, hcurves, hshadeH, hshadeV, -⟩ := Chain.framed hchain
    exact .inr ⟨hcurves, hshadeH, hshadeV⟩
  | fieldSync q =>
    rcases s.fieldSync_cases q with ⟨r, v, hlock, -, heq⟩ | ⟨r, v, -, -, -, heq⟩ | ⟨-, heq⟩ <;>
      rw [heq]
    · by_cases hpending : s.loader.state = .installPending
      · refine .inl ⟨⟨q, rfl⟩, ?_, hpending⟩
        exact (congrArg Raster.locked (State.fieldBoundary_fields.1)).trans hlock
      · exact .inr (State.fieldBoundary_stores (u := { s with raster := r, video := v }) hpending)
    · exact .inr ⟨rfl, rfl, rfl⟩
    · refine .inr ?_
      simp [State.syncMarked, State.loseLock]
  | expiry =>
    refine .inr ?_
    rcases s.missingSync_cases with ⟨r, -, heq⟩ | ⟨-, heq⟩ <;> rw [heq]
    · exact ⟨rfl, rfl, rfl⟩
    · simp [State.loseLock, State.expired]
  | pixelClock => exact .inr (by simp)
  | lineSync | held | windowEnd => exact .inr ⟨rfl, rfl, rfl⟩

/-- A boundary with a pending install: the target's table is the buffer, the loader is idle, and the requester's answer is offered to what the other blocks leave of the line (R39, log 9). -/
theorem State.fieldBoundary_install (hstate : u.loader.state = .installPending)
    (htarget : u.loader.target = some target) (hlength : u.curves.length = 16)
    (hok : tableOk target u.loader.buffer = true) :
    (∀ other, u.fieldBoundary.tableOf other =
      if other = target then u.loader.buffer else u.tableOf other) ∧
    u.fieldBoundary.loader = Loader.idle ∧
    (u.loader.requester = none → u.fieldBoundary.line = u.followedWork.line ∧
      u.fieldBoundary.latches = u.followedWork.latches) ∧
    (∀ a, u.loader.requester = some a →
      let answered := u.followedWork.offer (u.followedWork.installDone target a)
      u.fieldBoundary.line = answered.line ∧ u.fieldBoundary.latches = answered.latches) := by
  obtain ⟨-, -, hcurves, hshadeH, hshadeV, hloader, -⟩ := State.followedWork_fields (u := u)
  have hfilm : u.followedWork.filmTaken.loader = u.loader := hloader
  have htableOf : ∀ other, u.followedWork.filmTaken.tableOf other = u.tableOf other := by
    intro other
    cases other with
    | curve n => exact congrArg (fun l : List (List Nat) => l.getD n []) hcurves
    | shadingH => exact hshadeH
    | shadingV => exact hshadeV
  rw [← hfilm] at hstate htarget hok ⊢
  have htables := State.installBoundary_tables hstate htarget
    ((congrArg List.length hcurves).trans hlength) hok
  obtain ⟨hnone, hsome⟩ := State.installBoundary_of_pending hstate htarget
  obtain ⟨hline, hlatches, hstraps, henables⟩ :=
    State.tableTaken_line (u := u.followedWork.filmTaken) (target := target)
  have hboundary : ∀ other, u.fieldBoundary.tableOf other = u.installed.tableOf other := by
    intro other
    cases other <;> rfl
  refine ⟨fun other => ?_, (htables target).2, fun hquiet => ?_, fun a ha => ?_⟩
  · rw [hboundary other, State.installed, (htables other).1, htableOf other]
  · have htaken : u.installed = _ := hnone hquiet
    exact ⟨(congrArg State.line htaken).trans hline, (congrArg State.latches htaken).trans hlatches⟩
  · have htaken : u.installed = _ := hsome a ha
    obtain ⟨hofferLine, hofferLatches⟩ := State.offer_congr (s := u.followedWork)
      (u.followedWork.installDone target a) hstraps henables hline hlatches
    exact ⟨(congrArg State.line htaken).trans hofferLine,
      (congrArg State.latches htaken).trans hofferLatches⟩

end

/-- Settles O14: no deed but a boundary's install writes a store, and the answer is offered to what the other blocks leave. -/
theorem installAtBoundary : Obligations.InstallAtBoundary := by
  unfold Obligations.InstallAtBoundary
  refine ⟨fun c s t hreset hexec => stores_of_deed (effect_of_exec hexec).deed hreset, ?_⟩
  intro p s t target h hsound hstate htarget
  obtain ⟨heq, -⟩ := synced_of_boundary h
  obtain ⟨hlength, -, -, -, -, -, hbusy, -⟩ := hsound
  obtain ⟨x, hx, hok, -⟩ := hbusy (hstate ▸ nofun)
  obtain rfl : target = x := Option.some.inj (htarget.symm.trans hx)
  obtain ⟨htables, hidle, hnone, hsome⟩ :=
    State.fieldBoundary_install (u := s.synced t) hstate htarget hlength hok
  rw [← heq] at htables hidle hnone hsome
  obtain ⟨-, -, -, -, -, -, hfollower, -⟩ := State.followedWork_fields (u := s.synced t)
  obtain ⟨-, -, -, -, -, hmuted⟩ := (State.offers_followedWork (u := s.synced t)).kept
  refine ⟨htables, congrArg Loader.state hidle, congrArg Loader.target hidle,
    congrArg Loader.requester hidle, (s.synced t).followedWork, followedWork_of_boundary h, hnone,
    fun a ha => ?_⟩
  have hdone : (s.synced t).followedWork.installDone target a =
      ⟨a, .reply 0x22 .done (target.bytes ++ natBytes ((s.follower.fieldCount + 1) % 65536))⟩ := by
    rw [State.installDone, hfollower, (Follower.settle_kept _).1]
    rfl
  obtain ⟨hline, hlatches⟩ := hsome a ha
  rw [hdone] at hline hlatches
  refine ⟨_, rfl, hline, hlatches, fun hmute hroom => ?_⟩
  rw [hline]
  exact State.mem_offer_of_room _ (hmuted.trans hmute) hroom

end Sys2Proof.Machine

/-! The cut detector at a boundary (R142 to R148). -/

namespace Sys2Proof.Machine

open Safety

section
variable {s t u : State} {p : Bool} {v : Measure}

/-! ## The comparison -/

/-- The difference of two histograms, written as one sum over the bins (R144). -/
theorem histogramDifference_eq (a b : List Nat) :
    histogramDifference a b = ((a.zip b).map (fun x => ((x.1 : Int) - x.2).natAbs)).sum := by
  induction a generalizing b with
  | nil => simp [histogramDifference]
  | cons x xs ih =>
    cases b with
    | nil => simp [histogramDifference]
    | cons y ys =>
      rw [histogramDifference, ih ys, List.zip_cons_cons, List.map_cons, List.sum_cons]
      omega

/-- The state is FOLLOW under lock in the last row of Table 6-6 alone (R117). -/
theorem engineState_follow (hlocked : u.raster.locked = true) :
    u.engineState = .follow ↔
      u.rollCall = none ∧ u.follower.reel ≠ none ∧ u.follower.holdConsole = false ∧
      u.follower.holdCoast = false ∧ u.follower.coast = 0 := by
  obtain ⟨-, -, -, -, -, hfollow⟩ := engineStateTable.2 u
  rw [hfollow, hlocked]
  tauto

/-- A comparison is made for a whole captured field, after a reference of the frame before, in forward PLAY or VARI and in FOLLOW (R142, R143). -/
theorem State.comparison_eq :
    u.comparison =
      (match u.detector.capture, u.detector.reference with
      | some k, some q =>
        if u.detector.bins.sum = Config.fieldSamples u.straps.standard ∧
          q.frame + 1 = k.frame ∧ k.dir = .fwd ∧ (k.speed = .play ∨ k.speed = .vari) ∧
          u.engineState = .follow
        then some ⟨measureOf u.straps.standard (histogramDifference u.detector.bins q.bins), k.frame⟩
        else none
      | _, _ => none) := by
  unfold State.comparison State.wholeCapture
  by_cases hwhole : u.detector.bins.sum = Config.fieldSamples u.straps.standard
  · rw [if_pos hwhole]
    cases u.detector.capture with
    | none => rfl
    | some k =>
      cases u.detector.reference with
      | none => rfl
      | some q => simp only [hwhole, true_and]
  · rw [if_neg hwhole]
    cases u.detector.capture with
    | none => rfl
    | some k =>
      cases u.detector.reference with
      | none => rfl
      | some q => simp only [hwhole, false_and, if_false]

/-- A comparison is of the captured frame, and of a reel (R141, R143). -/
theorem State.captured_of_comparison (hlocked : u.raster.locked = true)
    (h : u.comparison = some v) :
    (∀ k ∈ u.detector.capture, v.frame = k.frame) ∧ ∃ q, u.follower.reel = some q := by
  rw [State.comparison_eq] at h
  split at h
  next k q hcapture _ =>
    split at h
    next hmade =>
      obtain ⟨-, -, -, -, hfollow⟩ := hmade
      obtain ⟨-, hreel, -⟩ := (engineState_follow hlocked).mp hfollow
      cases h
      refine ⟨fun x hx => ?_, Option.ne_none_iff_exists'.mp hreel⟩
      rw [Option.some.inj (hcapture.symm.trans hx)]
    next => cases h
  next => cases h

/-- The last measure after a boundary (R144). -/
theorem State.fieldBoundary_measure :
    u.fieldBoundary.detector.measure =
      if u.comparison = none then u.detector.measure else u.comparison := by
  rw [State.fieldBoundary_detector, State.closedDetector]
  cases u.comparison with
  | none => rfl
  | some m => rfl

/-! ## The firing -/

/-- What a boundary's firing starts from, and what the boundary then leaves of it: at most three other offers are made, before it or after it (R147, R160). -/
structure State.FiresIn (m n : Nat) (v : Measure) (s x : State) : Prop where
  scenes : x.scenes = s.scenes
  history : x.history = s.history
  straps : x.straps = s.straps
  enables : x.enables = s.enables
  reel : x.follower.reel = s.follower.reel
  before : s.Offers m x
  after : (x.fire v).Offers n s.fieldBoundary
  total : m + n = 3
  scenes_after : s.fieldBoundary.scenes = (x.fire v).scenes
  history_after : s.fieldBoundary.history = (x.fire v).history
  latches_after : (x.fire v).LatchesKept s.fieldBoundary

/-- After the work of follower, detector and controller come at most one offer more, and no latch is cleared (R39, R160). -/
theorem State.fieldBoundary_after :
    u.followedWork.Offers 1 u.fieldBoundary ∧ u.followedWork.LatchesKept u.fieldBoundary := by
  have hoffers : u.followedWork.filmTaken.Offers 1 u.installed := State.offers_installBoundary
  have hkept : u.followedWork.filmTaken.LatchesKept u.installed := State.latchesKept_installBoundary
  exact ⟨hoffers.of_line rfl rfl, hkept⟩

/-- A boundary at which the detector fires (R146, R147). -/
theorem State.fieldBoundary_fired (h : u.firing = some v) : ∃ m n x, u.FiresIn m n v x := by
  have hreel := State.followBoundary_reel (s := u)
  obtain ⟨-, -, hscenes, hhistory, -⟩ := State.fieldBoundary_kept (u := u)
  obtain ⟨hoffers, hkept⟩ := State.fieldBoundary_after (u := u)
  have hfollowed : u.Offers 1
      { u.followBoundary with freeCount := u.followBoundary.freeCount + 1 } :=
    State.offers_followBoundary.of_line rfl rfl
  rcases u.followBoundary.fireAndControl_cases u.firing u.arrives with ⟨hnone, -⟩ | ⟨w, hw, hwork⟩
  · exact absurd (hnone.symm.trans h) nofun
  obtain rfl : w = v := Option.some.inj (hw.symm.trans h)
  rcases hwork with hwork | hwork
  · have hwork : u.followedWork = _ := hwork
    rw [hwork] at hscenes hhistory hoffers hkept
    exact ⟨1, 2, { u.followBoundary with freeCount := u.followBoundary.freeCount + 1 },
      by simp, by simp, by simp, by simp, hreel, hfollowed,
      State.offers_controllerBoundary.trans hoffers, rfl,
      hscenes.trans (by simp), hhistory.trans (by simp),
      (State.latchesKept_controllerBoundary _).trans hkept⟩
  · have hwork : u.followedWork = _ := hwork
    rw [hwork] at hscenes hhistory hoffers hkept
    exact ⟨2, 1, State.controllerBoundary u.arrives
        { u.followBoundary with freeCount := u.followBoundary.freeCount + 1 },
      by simp, by simp, by simp, by simp, by simpa using hreel,
      hfollowed.trans State.offers_controllerBoundary, hoffers, rfl, hscenes, hhistory, hkept⟩

/-- A boundary at which the detector does not fire, or makes no proposal, leaves table and history (R146). -/
theorem State.fieldBoundary_unproposed (h : u.firing = none ∨ u.straps.detect = false) :
    u.fieldBoundary.scenes = u.scenes ∧ u.fieldBoundary.history = u.history := by
  cases hfiring : u.firing with
  | none =>
    obtain ⟨-, -, hscenes, hhistory, -⟩ := State.fieldBoundary_kept (u := u)
    rw [hscenes, hhistory, State.followedWork, hfiring]
    simp [State.fireAndControl]
  | some v =>
    have hdetect := h.resolve_left (hfiring ▸ nofun)
    obtain ⟨m, n, x, hx⟩ := State.fieldBoundary_fired hfiring
    have hunproposed : ¬ x.straps.detect = true := by
      rw [hx.straps, hdetect]
      exact Bool.false_ne_true
    have hwork := State.lineWork_cutReported (s := x) v
    rw [hx.scenes_after, hx.history_after, State.fire_eq_propose, if_neg hunproposed, hwork]
    exact ⟨hx.scenes, hx.history⟩

/-- The proposal of a firing with the DETECT strap on (R81, R146). -/
theorem State.fieldBoundary_proposed (h : u.firing = some v) (hdetect : u.straps.detect = true) :
    ((∃ r ∈ u.scenes, r.start = v.frame) → u.fieldBoundary.scenes = u.scenes) ∧
    ((¬ ∃ r ∈ u.scenes, r.start = v.frame) → 256 ≤ u.scenes.length →
      u.fieldBoundary.scenes = u.scenes ∧ u.fieldBoundary.held .tableFull = true) ∧
    ((¬ ∃ r ∈ u.scenes, r.start = v.frame) → u.scenes.length < 256 →
      (∀ x, x ∈ u.fieldBoundary.scenes ↔ x ∈ u.scenes ∨
        x = ⟨v.frame, (sceneOf u.scenes v.frame).slot, .cut, 1, .detector, false⟩) ∧
      Pushed (.sceneInserted v.frame) u u.fieldBoundary) := by
  obtain ⟨m, n, x, hx⟩ := State.fieldBoundary_fired h
  have hfire : x.fire v = (x.cutReported v).propose v.frame .detector := by
    rw [State.fire_eq_propose, if_pos (hx.straps ▸ hdetect)]
  have hwork := State.lineWork_cutReported (s := x) v
  have hreported : (x.cutReported v).scenes = u.scenes ∧ (x.cutReported v).history = u.history := by
    rw [hwork]
    exact ⟨hx.scenes, hx.history⟩
  obtain ⟨hscenes, hhistory⟩ := hreported
  have hafter := hx.scenes_after
  have hlatches := hx.latches_after
  rw [hfire] at hafter hlatches
  refine ⟨fun htaken => ?_, fun hfree hfull => ?_, fun hfree hroom => ?_⟩
  · rw [← hscenes] at htaken
    rw [hafter, State.propose_taken htaken, hscenes]
  · rw [← hscenes] at hfree hfull
    rw [State.propose_full hfree hfull] at hafter hlatches
    refine ⟨hafter.trans ?_, hlatches _ (State.held_raise _)⟩
    simpa using hscenes
  · have hpushed := State.push_pushed (s := x.cutReported v) (.sceneInserted v.frame)
    have hhistoryAfter := hx.history_after
    rw [← hscenes] at hfree hroom
    rw [hfire, State.propose_free hfree hroom] at hhistoryAfter
    rw [State.propose_free hfree hroom] at hafter
    refine ⟨fun y => ?_, ?_⟩
    · have hinserted := mem_insertScene (x := y)
        (r := ⟨v.frame, (sceneOf (x.cutReported v).scenes v.frame).slot, .cut, 1, .detector, false⟩)
        (t := (x.cutReported v).scenes) fun r hr hstart => hfree ⟨r, hr, hstart⟩
      rw [hafter, ← hscenes, or_comm, ← hinserted]
      simp [State.insertRecord]
    · unfold Pushed at hpushed ⊢
      rw [hhistory] at hpushed
      rwa [hhistoryAfter]

/-- The CUT cue of a firing joins a queue with room for what a boundary can offer (R146, R148). -/
theorem State.fieldBoundary_cut {q : Reel} (h : u.firing = some v) (hreel : u.follower.reel = some q)
    (hreports : u.reportsCut = true) (hmute : u.line.mute = false) (hroom : u.line.tx.length ≤ 3) :
    ∃ e ∈ u.fieldBoundary.line.tx, e.cue = ⟨15, .cut q.id v.frame v.value⟩ := by
  obtain ⟨m, n, x, hx⟩ := State.fieldBoundary_fired h
  have htotal := hx.total
  have hcue : x.cutCue v = ⟨15, .cut q.id v.frame v.value⟩ := by
    rw [State.cutCue, hx.reel, hreel]
    rfl
  have hreported : x.cutReported v = x.offer ⟨15, .cut q.id v.frame v.value⟩ := by
    rw [State.cutReported, State.reportsCut, hx.enables, hcue]
    exact if_pos hreports
  obtain ⟨-, -, -, -, -, hmuted⟩ := hx.before.kept
  obtain ⟨-, hlength⟩ := hx.before.room hmute (by omega)
  have hjoined := State.mem_offer_of_room (s := x) ⟨15, .cut q.id v.frame v.value⟩
    (hmuted.trans hmute) (by omega)
  have hoffer := State.offers_offer (s := x) ⟨15, .cut q.id v.frame v.value⟩
  obtain ⟨-, -, -, -, -, hoffered⟩ := hoffer.kept
  obtain ⟨-, hgrown⟩ := hoffer.room (hmuted.trans hmute) (by omega)
  have hlater : (x.cutReported v).Offers (1 + n) u.fieldBoundary :=
    (State.offers_fired v).trans hx.after
  rw [hreported] at hlater
  obtain ⟨e, he, hcut⟩ := hjoined
  exact ⟨e, (hlater.room (hoffered.trans (hmuted.trans hmute)) (by omega)).1 e he, hcut⟩

end

/-- Settles O42: the comparison is read in the state in which the boundary is accepted, and the firing is followed through the work that may come before or after it. -/
theorem detectorAtBoundary : Obligations.DetectorAtBoundary := by
  unfold Obligations.DetectorAtBoundary
  intro p s t m h hm
  obtain ⟨heq, hlocked, -⟩ := synced_of_boundary h
  have hcomparison : m = (s.synced t).comparison := by
    rw [hm, State.comparison_eq]
    cases hcapture : s.detector.capture with
    | none => simp only [State.synced, hcapture]
    | some k =>
      cases hreference : s.detector.reference with
      | none => simp only [State.synced, hcapture, hreference]
      | some q =>
        have hfollow := engineState_follow hlocked
        have hsame : (s.synced t).detector = s.detector := rfl
        rw [hsame, hcapture, hreference]
        refine if_congr ?_ ?_ rfl
        · rw [hfollow, fieldSamples_eq]
          exact .rfl
        · rw [measureOf, histogramDifference_eq, fieldSamples_eq]
          rfl
  clear hm
  subst hcomparison
  have hfires : ∀ k ∈ s.detector.capture, ∀ v, (s.synced t).comparison = some v →
      ((s.synced t).firing = some v ↔ s.profile.threshold ≤ v.value ∧
        (s.profile.minScene : Int) ≤ (k.frame : Int) - k.sceneStart) := by
    intro k hk v hv
    have hframe := (State.captured_of_comparison hlocked hv).1 k hk
    rw [State.firing_eq_some, ← hframe]
    constructor
    · rintro ⟨-, c, hc, hfired⟩
      obtain rfl : c = k := Option.some.inj (hc.symm.trans hk)
      exact hfired
    · exact fun hfired => ⟨hv, k, hk, hfired⟩
  have hmeasure := State.fieldBoundary_measure (u := s.synced t)
  have hproposed := fun v hv => State.fieldBoundary_proposed (u := s.synced t) (v := v) hv
  have hcut := fun v q hv => State.fieldBoundary_cut (u := s.synced t) (v := v) (q := q) hv
  have hquiet := fun hnone => State.fieldBoundary_unproposed (u := s.synced t) hnone
  rw [← heq] at hmeasure hproposed hcut hquiet
  refine ⟨hmeasure, ?_, ?_, ?_⟩
  · intro k hk v hv hvalue hlong hdetect
    have hframe := (State.captured_of_comparison hlocked hv).1 k hk
    rw [← hframe]
    exact hproposed v ((hfires k hk v hv).mpr ⟨hvalue, hlong⟩) hdetect
  · intro k hk v hv hvalue hlong hreports hmute hroom
    obtain ⟨hframe, q, hreel⟩ := State.captured_of_comparison hlocked hv
    obtain ⟨e, he, hcue⟩ :=
      hcut v q ((hfires k hk v hv).mpr ⟨hvalue, hlong⟩) hreel hreports hmute hroom
    exact ⟨e, he, q, hreel, hframe k hk ▸ hcue⟩
  · intro hnot
    refine hquiet (hnot.imp_left fun hshort => ?_)
    rw [Option.eq_none_iff_forall_ne_some]
    intro v hfiring
    obtain ⟨hv, k, hk, -⟩ := State.firing_eq_some.mp hfiring
    obtain ⟨hvalue, hlong⟩ := (hfires k hk v hv).mp hfiring
    have := hshort k hk v hv
    omega

end Sys2Proof.Machine

/-! Every grade the engine holds stays within its ranges (law L12, R44, R45, R53, R59, R119). -/

namespace Sys2Proof.Machine

open Safety

/-! ## The controller's work at a boundary, case by case -/

/-- What the controller's boundary work leaves before the marked contexts are refreshed (R123 to R128). -/
inductive Conducted (s : State) : Controller → Prop
  /-- The count alone (R123). -/
  | counted (x : Bool) : Conducted s { counted s.controller with holdExit := x }
  /-- In HOLD (R124). -/
  | kept : Conducted s { completed (Safety.counted s.controller) with holdExit := true }
  /-- A CUT (R127). -/
  | cut (n : Nat) : Conducted s { completed (Safety.counted s.controller) with
      current := ⟨(sceneOf s.scenes n).slot, s.pool.grade (sceneOf s.scenes n).slot, false⟩
      sceneStart := (sceneOf s.scenes n).start, holdExit := false }
  /-- A DISSOLVE (R128). -/
  | dissolve (n : Nat) : Conducted s { completed (Safety.counted s.controller) with
      incoming := some ⟨(sceneOf s.scenes n).slot, s.pool.grade (sceneOf s.scenes n).slot, false⟩
      length := (sceneOf s.scenes n).length, count := 1
      sceneStart := (sceneOf s.scenes n).start, holdExit := false }

section
variable {s t u : State} {c : Controller} {p q : Pool} {b : Bool} {e : Entry}

/-- The hold-exit mark is no part of a completion (R123). -/
theorem completed_holdExit (c : Controller) (x : Bool) :
    completed { c with holdExit := x } = { completed c with holdExit := x } := by
  obtain ⟨current, incoming, start, length, count, mark⟩ := c
  cases incoming <;> rfl

/-- The controller's boundary work is one of the cases, then the refresh (R123 to R130). -/
theorem State.controllerBoundary_conducted (b : Bool) (s : State) :
    ∃ c, Conducted s c ∧ (s.controllerBoundary b).controller = refreshed s c := by
  obtain ⟨hhold, hunknown, -⟩ := controllerWithoutLookup b s
  by_cases hstate : s.engineState = .hold
  · exact ⟨_, .kept, hhold hstate⟩
  · cases hcurrent : s.follower.current with
    | none => exact ⟨_, .counted _, hunknown hstate hcurrent⟩
    | some f =>
      obtain ⟨hquiet, hcut, hdissolve, -⟩ :=
        controllerLookup b s f (sceneOf s.scenes f.frame) hstate hcurrent rfl
      by_cases hfires : (sceneOf s.scenes f.frame).start ≠ (counted s.controller).sceneStart ∨
          ((counted s.controller).incoming = none ∧
            (sceneOf s.scenes f.frame).slot ≠ (counted s.controller).current.slot)
      case neg => exact ⟨_, .counted false, (hquiet hfires).1⟩
      by_cases hkind : b = true ∧ f.dir = .fwd ∧ f.speed = .play ∧
          f.frame = (sceneOf s.scenes f.frame).start ∧
          (sceneOf s.scenes f.frame).trans = .dissolve ∧ s.controller.holdExit = false
      · refine ⟨_, .dissolve f.frame, (hdissolve hfires hkind).trans ?_⟩
        rw [completed_holdExit]
      · refine ⟨_, .cut f.frame, (hcut hfires hkind).trans ?_⟩
        rw [completed_holdExit]
        unfold refreshed
        dsimp only
        rw [completed_incoming]
        rfl

/-! ## Grades in range -/

/-- The grades of every allocated slot are in their ranges (R44, R45). -/
abbrev Pool.GradesOk (p : Pool) : Prop := ∀ o ∈ p.slots, ∀ r ∈ o, GradeOk r.grade

/-- The copies of the contexts are in their ranges (R119). -/
abbrev Controller.GradesOk (c : Controller) : Prop :=
  GradeOk c.current.copy ∧ ∀ i ∈ c.incoming, GradeOk i.copy

/-- The grades that edits and controller hold are in their ranges: all but the snapshot's (R44, R45, R59, R119). -/
abbrev GradesHeld (s : State) : Prop :=
  s.pool.GradesOk ∧ (∀ e ∈ s.history.entries, entryOk e = true) ∧ s.controller.GradesOk

/-- The flat grade is in its ranges (R46). -/
theorem gradeOk_flat : GradeOk Grade.flat := by decide

/-- The ranges of a pool, slot by slot. -/
theorem Pool.gradesOk_iff : p.GradesOk ↔ ∀ n r, p.slot n = some r → GradeOk r.grade := by
  constructor
  · intro h n r hr
    rw [Pool.slot, List.getD_eq_getElem?_getD] at hr
    obtain ⟨o, ho, rfl⟩ : ∃ o, p.slots[n]? = some o ∧ o = some r := by
      cases hget : p.slots[n]? with
      | none =>
        rw [hget] at hr
        cases hr
      | some o =>
        rw [hget] at hr
        exact ⟨o, rfl, hr⟩
    exact h _ (List.mem_of_getElem? ho) r rfl
  · intro h o ho r hr
    obtain ⟨n, hn⟩ := List.mem_iff_getElem?.mp ho
    refine h n r ?_
    rw [Pool.slot, List.getD_eq_getElem?_getD, hn]
    exact hr

/-- A change of counts alone keeps the ranges. -/
theorem Pool.GradesOk.recounted (h : p.GradesOk) (hpq : p.Recounted q) : q.GradesOk := by
  refine Pool.gradesOk_iff.mpr fun n r hr => ?_
  have hgrade := hpq.grade n
  rw [hr, Option.map_some] at hgrade
  obtain ⟨x, hx, hxr⟩ := Option.map_eq_some_iff.mp hgrade.symm
  exact hxr ▸ Pool.gradesOk_iff.mp h n x hx

/-- What the pool gives as a slot's grade is in its ranges, also for a free slot. -/
theorem Pool.GradesOk.grade (h : p.GradesOk) (n : Nat) : GradeOk (p.grade n) := by
  unfold Pool.grade
  split
  next r hr => exact Pool.gradesOk_iff.mp h n r hr
  next => exact gradeOk_flat

/-- Another content of one place in its ranges keeps them. -/
theorem Pool.GradesOk.set {o : Option Slot} (h : p.GradesOk) (ho : ∀ r ∈ o, GradeOk r.grade)
    (n : Nat) : Pool.GradesOk ⟨p.slots.set n o⟩ := by
  intro x hx
  rcases List.mem_or_eq_of_mem_set hx with hx | rfl
  · exact h x hx
  · exact ho

/-- A grade in its ranges that is written keeps them (R54, R55). -/
theorem Pool.GradesOk.write {g : Grade} (h : p.GradesOk) (hg : GradeOk g) (n : Nat) :
    (p.write n g).GradesOk := by
  unfold Pool.write
  split
  next r hr =>
    refine h.set (fun x hx => ?_) n
    obtain rfl := Option.some.inj hx
    exact hg
  next => exact h

/-- The pool after a reset is flat (R47). -/
theorem Pool.gradesOk_initial : Pool.initial.GradesOk := by
  intro o ho r hr
  rcases List.mem_cons.mp ho with rfl | ho
  · obtain rfl := Option.some.inj hr
    exact gradeOk_flat
  · rw [List.eq_of_mem_replicate ho] at hr
    cases hr

/-- Marking contexts leaves their copies (R58). -/
theorem Controller.GradesOk.markSlot (h : c.GradesOk) (n : Nat) : (c.markSlot n).GradesOk := by
  have hcopy : ∀ x : Context, (x.markIf n).copy = x.copy := by
    intro x
    unfold Context.markIf
    split <;> rfl
  obtain ⟨hcurrent, hincoming⟩ := h
  refine ⟨(hcopy c.current).symm ▸ hcurrent, fun i hi => ?_⟩
  obtain ⟨x, hx, rfl⟩ := Option.map_eq_some_iff.mp hi
  exact (hcopy x).symm ▸ hincoming x hx

/-- A completed dissolve's copy is that of INCOMING (R123). -/
theorem Controller.GradesOk.completed (h : c.GradesOk) : (completed c).GradesOk := by
  obtain ⟨hcurrent, hincoming⟩ := h
  refine ⟨?_, by rw [completed_incoming]; nofun⟩
  unfold Safety.completed
  split
  next => exact hcurrent
  next i hi => exact hincoming i hi

/-- The count of a dissolve leaves the copies, or completes it (R123). -/
theorem Controller.GradesOk.counted (h : c.GradesOk) : (counted c).GradesOk := by
  have hcompleted := h.completed
  unfold Safety.completed at hcompleted
  unfold Safety.counted
  split
  next => exact h
  next i hi =>
    rw [hi] at hcompleted
    split
    next => exact h
    next => exact hcompleted

/-- A refreshed context has a slot's grade, or the copy it had (R130). -/
theorem Controller.GradesOk.refreshed (h : c.GradesOk) (hpool : s.pool.GradesOk) :
    (refreshed s c).GradesOk := by
  have hcopy : ∀ x : Context, GradeOk x.copy → GradeOk (x.refresh s.pool).copy := by
    intro x hx
    unfold Context.refresh
    split
    next => exact hpool.grade x.slot
    next => exact hx
  obtain ⟨hcurrent, hincoming⟩ := h
  refine ⟨hcopy _ hcurrent, fun i hi => ?_⟩
  obtain ⟨x, hx, rfl⟩ := Option.map_eq_some_iff.mp hi
  exact hcopy x (hincoming x hx)

/-- The controller's boundary work copies grades of slots alone (R119, R127, R128, R130). -/
theorem Conducted.gradesOk (hs : GradesHeld s) (h : Conducted s c) : c.GradesOk := by
  obtain ⟨hpool, -, hcontroller⟩ := hs
  have hcounted := hcontroller.counted
  have hcompleted := hcounted.completed
  cases h with
  | counted x => exact hcounted
  | kept => exact hcompleted
  | cut n => exact ⟨hpool.grade _, hcompleted.2⟩
  | dissolve n =>
    refine ⟨hcompleted.1, fun i hi => ?_⟩
    obtain rfl := Option.some.inj hi
    exact hpool.grade _

/-! ## Edits -/

/-- What recounts the pool and leaves history and contexts keeps the ranges. -/
theorem gradesHeld_congr (hs : GradesHeld s) (hpool : s.pool.Recounted t.pool)
    (hhistory : ∀ e ∈ t.history.entries, e ∈ s.history.entries)
    (hcontroller : t.controller = s.controller) : GradesHeld t := by
  obtain ⟨hgrades, hentries, hcopies⟩ := hs
  exact ⟨hgrades.recounted hpool, fun e he => hentries e (hhistory e he), hcontroller ▸ hcopies⟩

/-- The ranges are those of pool, history and contexts alone. -/
theorem gradesHeld_same (hs : GradesHeld s) (hpool : t.pool = s.pool)
    (hhistory : t.history = s.history) (hcontroller : t.controller = s.controller) :
    GradesHeld t :=
  gradesHeld_congr hs (hpool ▸ .refl _) (fun _ he => hhistory ▸ he) hcontroller

/-- The entries after a push are old ones and the one pushed (R87). -/
theorem State.mem_push {x : Entry} (hx : x ∈ (s.push e).history.entries) :
    x ∈ s.history.entries ∨ x = e := by
  have hpushed := State.push_pushed (s := s) e
  unfold Pushed at hpushed
  split at hpushed <;> rw [hpushed] at hx <;> rcases List.mem_append.mp hx with hx | hx
  · exact .inl hx
  · exact .inr (List.mem_singleton.mp hx)
  · exact .inl (List.mem_of_mem_tail hx)
  · exact .inr (List.mem_singleton.mp hx)

/-- A push of an entry in its ranges keeps them (R59, R87). -/
theorem gradesHeld_push (hs : GradesHeld s) (he : entryOk e = true) : GradesHeld (s.push e) := by
  obtain ⟨hgrades, hentries, hcopies⟩ := hs
  refine ⟨hgrades.recounted (State.recounted_push e), fun x hx => ?_, by simpa using hcopies⟩
  rcases State.mem_push hx with hx | rfl
  · exact hentries x hx
  · exact he

/-- A written grade in its ranges keeps them (R54, R55). -/
theorem gradesHeld_writeSlot {g : Grade} (hs : GradesHeld s) (hg : GradeOk g) (n : Nat) :
    GradesHeld (s.writeSlot n g) := by
  obtain ⟨hgrades, hentries, hcopies⟩ := hs
  exact ⟨hgrades.write hg n, hentries, hcopies.markSlot n⟩

/-- A reverted entry in its ranges keeps them (R59, R82). -/
theorem gradesHeld_revert (hs : GradesHeld s) (he : entryOk e = true) :
    GradesHeld (s.revert e) := by
  cases e with
  | sceneInserted f =>
    unfold State.revert
    dsimp only
    split
    next => exact gradesHeld_congr hs Pool.recounted_release (fun _ he => he) rfl
    next => exact hs
  | sceneRemoved r => exact gradesHeld_congr hs Pool.recounted_claim (fun _ he => he) rfl
  | sceneChanged r =>
    unfold State.revert
    dsimp only
    split
    next =>
      exact gradesHeld_congr hs (Pool.recounted_claim.trans Pool.recounted_release)
        (fun _ he => he) rfl
    next => exact hs
  | primaryChanged n p =>
    have hprimary : PrimaryOk p := of_decide_eq_true he
    obtain ⟨-, hvectors⟩ := hs.1.grade n
    exact gradesHeld_writeSlot (g := { s.pool.grade n with primary := p }) hs
      ⟨hprimary, hvectors⟩ n
  | vectorsChanged n vs =>
    have hvectors : vs.length ≤ 6 ∧ ∀ v ∈ vs, VecOk v := of_decide_eq_true he
    obtain ⟨hprimary, -⟩ := hs.1.grade n
    exact gradesHeld_writeSlot (g := { s.pool.grade n with vectors := vs }) hs
      ⟨hprimary, hvectors⟩ n

/-- What an owner does keeps the ranges: what it writes is stored within them (R53, R59). -/
theorem Owned.gradesHeld (hs : GradesHeld s) {named : Option Byte} (h : Owned s named t) :
    GradesHeld t := by
  have hslot := Pool.gradesOk_iff.mp hs.1
  cases h with
  | @marked r =>
    have hpushed := gradesHeld_push (e := .sceneInserted r.start) hs rfl
    exact gradesHeld_congr hpushed Pool.recounted_claim (fun _ he => he) rfl
  | @cleared r =>
    have hpushed := gradesHeld_push (e := .sceneRemoved r) hs rfl
    exact gradesHeld_congr hpushed Pool.recounted_release (fun _ he => he) rfl
  | @set r =>
    have hpushed := gradesHeld_push (e := .sceneChanged r) hs rfl
    exact gradesHeld_congr hpushed (Pool.recounted_claim.trans Pool.recounted_release)
      (fun _ he => he) rfl
  | purged =>
    have hpurged : GradesHeld s.purgeScenes :=
      gradesHeld_congr hs (Pool.recounted_foldl (fun _ _ => Pool.recounted_release) _ _)
        (fun _ he => he) rfl
    exact gradesHeld_congr hpurged
      (Pool.recounted_foldl (fun _ e => Pool.recounted_releaseEntry e) _ _)
      (fun _ he => absurd he List.not_mem_nil) rfl
  | allocated =>
    obtain ⟨hgrades, hrest⟩ := hs
    refine ⟨hgrades.set (fun r hr => ?_) _, hrest⟩
    obtain rfl := Option.some.inj hr
    exact gradeOk_flat
  | dropped =>
    obtain ⟨hgrades, hrest⟩ := hs
    exact ⟨hgrades.set (fun _ hr => absurd hr (Option.not_mem_none _)) _, hrest⟩
  | @primary n r p _ _ hr hp =>
    obtain ⟨hprimary, hvectors⟩ := hslot n r hr
    have hpushed := gradesHeld_push (e := .primaryChanged n r.grade.primary) hs
      (decide_eq_true hprimary)
    exact gradesHeld_writeSlot (g := { r.grade with primary := p }) hpushed ⟨hp, hvectors⟩ n
  | @vectors n r vs _ _ hr hlength hvs =>
    obtain ⟨hprimary, hcount, hvectors⟩ := hslot n r hr
    have hpushed := gradesHeld_push (e := .vectorsChanged n r.grade.vectors) hs
      (decide_eq_true ⟨hcount, hvectors⟩)
    have hsix : vs.length ≤ 6 := hlength.trans (max_le (Nat.le_refl 6) hcount)
    refine gradesHeld_writeSlot (g := { r.grade with vectors := vs }) hpushed
      ⟨hprimary, hsix, fun v hv => ?_⟩ n
    exact (hvs v hv).elim (hvectors v) id
  | @undone e hlast =>
    rw [State.undoEntry_eq]
    have hreverted := gradesHeld_revert hs (hs.2.1 e (List.mem_of_getLast? hlast))
    exact gradesHeld_congr hreverted (Pool.recounted_releaseEntry e)
      (fun _ he => List.mem_of_mem_dropLast he) rfl
  | cancelled =>
    rw [State.lineWork_replyCancelled]
    exact hs
  | same | loadStarted | loaded | installed | enables | profile | latches => exact hs

/-- A cut proposal keeps the ranges (R81). -/
theorem gradesHeld_propose (hs : GradesHeld s) (f : Nat) (o : Origin) :
    GradesHeld (s.propose f o) := by
  rcases s.propose_cases f o with heq | heq | ⟨-, -, heq⟩ <;> rw [heq]
  · exact hs
  · exact gradesHeld_same hs (by simp) (by simp) (by simp)
  · exact gradesHeld_congr (gradesHeld_push (e := .sceneInserted f) hs rfl) Pool.recounted_claim
      (fun _ he => he) rfl

/-- What a cue does keeps the ranges. -/
theorem Touch.gradesHeld (hs : GradesHeld s) (h : Touch s t) : GradesHeld t := by
  cases h with
  | line hwork =>
    rw [hwork]
    exact hs
  | reel =>
    obtain ⟨-, -, hcurrent, -⟩ := hs
    exact ⟨Pool.gradesOk_initial, nofun, hcurrent, nofun⟩
  | peerCut src reel f =>
    rcases s.takePeerCut_cases src reel f with heq | ⟨_, _, _, heq⟩ <;> rw [heq]
    · exact hs
    · exact gradesHeld_propose hs f _
  | owner c => exact (ownerOf_owned c).gradesHeld hs
  | rethread | frame | hold | role | lineReset => exact hs

/-! ## Boundary and loss -/

/-- The detector's firing keeps the ranges (R146). -/
theorem gradesHeld_fire (hs : GradesHeld s) (v : Measure) : GradesHeld (s.fire v) := by
  have hwork := State.lineWork_cutReported (s := s) v
  have hreported : GradesHeld (s.cutReported v) := by
    rw [hwork]
    exact hs
  rw [State.fire_eq_propose]
  split
  next => exact gradesHeld_propose hreported _ _
  next => exact hreported

/-- The controller's boundary work keeps the ranges (R119). -/
theorem gradesHeld_controllerBoundary (hs : GradesHeld s) (b : Bool) :
    GradesHeld (s.controllerBoundary b) := by
  obtain ⟨c, hc, hcontroller⟩ := s.controllerBoundary_conducted b
  refine ⟨hs.1.recounted State.recounted_controllerBoundary, by simpa using hs.2.1, ?_⟩
  rw [hcontroller]
  exact (hc.gradesOk hs).refreshed hs.1

/-- A field boundary keeps the ranges (R160). -/
theorem gradesHeld_fieldBoundary (hs : GradesHeld s) : GradesHeld s.fieldBoundary := by
  have hfollowed : GradesHeld s.followBoundary :=
    gradesHeld_same hs (by simp) (by simp) (by simp)
  have hcounted : GradesHeld
      { s.followBoundary with freeCount := s.followBoundary.freeCount + 1 } := hfollowed
  have hwork : GradesHeld s.followedWork := by
    rw [State.followedWork]
    rcases s.followBoundary.fireAndControl_cases s.firing s.arrives with
      ⟨-, heq⟩ | ⟨v, -, heq | heq⟩ <;> rw [heq]
    · exact gradesHeld_controllerBoundary hfollowed _
    · exact gradesHeld_controllerBoundary (gradesHeld_fire hcounted v) _
    · exact gradesHeld_fire (gradesHeld_controllerBoundary hcounted _) v
  obtain ⟨hcontroller, hpool, -, hhistory, -⟩ := State.fieldBoundary_kept (u := s)
  exact gradesHeld_congr hwork (hpool ▸ .refl _) (fun e he => hhistory ▸ he) hcontroller

/-- A declaration of loss keeps the ranges (R133). -/
theorem gradesHeld_loseLock (hs : GradesHeld s) : GradesHeld s.loseLock := by
  have hcompleted : ∀ x : State, GradesHeld x → GradesHeld x.completeDissolve := by
    rintro x ⟨hgrades, hentries, hcopies⟩
    refine ⟨hgrades.recounted State.recounted_completeDissolve, by simpa using hentries, ?_⟩
    rw [State.completeDissolve_controller]
    exact hcopies.completed
  unfold State.loseLock
  exact hcompleted _ (gradesHeld_same hs (by simp) (by simp) (by simp))

/-- What one command does keeps the ranges of what edits and controller hold. -/
theorem Deed.gradesHeld {i : Instr} (hs : GradesHeld s) (h : Deed s i t) : GradesHeld t := by
  cases h with
  | powerOn straps =>
    obtain ⟨l, w, heq⟩ := State.powerOn_cases straps
    rw [heq]
    exact ⟨Pool.gradesOk_initial, nofun, gradeOk_flat, nofun⟩
  | asserted => exact ⟨Pool.gradesOk_initial, nofun, gradeOk_flat, nofun⟩
  | cues _ _ hchain => exact hchain.induction Touch.gradesHeld hs
  | fieldSync p =>
    rcases s.fieldSync_cases p with ⟨r, v, -, -, heq⟩ | ⟨r, v, -, -, -, heq⟩ | ⟨-, heq⟩ <;> rw [heq]
    · exact gradesHeld_fieldBoundary (s := { s with raster := r, video := v }) hs
    · exact hs
    · exact gradesHeld_loseLock hs
  | expiry =>
    rcases s.missingSync_cases with ⟨r, -, heq⟩ | ⟨-, heq⟩ <;> rw [heq]
    · exact hs
    · exact gradesHeld_loseLock (s := s.expired) hs
  | pixelClock => exact gradesHeld_same hs (by simp) (by simp) (by simp)
  | lineSync | held | windowEnd => exact hs

/-! ## The snapshot -/

/-- The snapshot after one command: that of RESET, the one taken at a boundary, or the one before (R3). -/
theorem Deed.snapshot_cases {i : Instr} (h : Deed s i t) :
    (∃ straps, t.snapshot = (State.cold straps).snapshot) ∨ t.snapshot = t.takeSnapshot ∨
    t.snapshot = s.snapshot := by
  cases h with
  | powerOn straps =>
    obtain ⟨l, w, heq⟩ := State.powerOn_cases straps
    rw [heq]
    exact .inl ⟨straps, rfl⟩
  | asserted => exact .inl ⟨s.straps, rfl⟩
  | cues _ _ hchain =>
    obtain ⟨-, -, -, -, hsnapshot, -⟩ := Chain.framed hchain
    exact .inr (.inr hsnapshot)
  | fieldSync p =>
    rcases s.fieldSync_cases p with ⟨r, v, -, -, heq⟩ | ⟨r, v, -, -, -, heq⟩ | ⟨-, heq⟩ <;> rw [heq]
    · exact .inr (.inl State.fieldBoundary_snapshot)
    · exact .inr (.inr rfl)
    · exact .inr (.inr (by simp [State.syncMarked, State.loseLock]))
  | expiry =>
    rcases s.missingSync_cases with ⟨r, -, heq⟩ | ⟨-, heq⟩ <;> rw [heq]
    · exact .inr (.inr rfl)
    · exact .inr (.inr (by simp [State.loseLock, State.expired]))
  | pixelClock => exact .inr (.inr (by simp))
  | lineSync | held | windowEnd => exact .inr (.inr rfl)

/-- Every grade held, with those of the snapshot (R3, R119). -/
theorem gradesSound_iff : GradesSound s ↔
    GradesHeld s ∧ GradeOk s.snapshot.current ∧ ∀ g ∈ s.snapshot.incoming, GradeOk g := by
  constructor
  · rintro ⟨hpool, hentries, hcurrent, hincoming, hsnapshot⟩
    exact ⟨⟨hpool, hentries, hcurrent, hincoming⟩, hsnapshot⟩
  · rintro ⟨⟨hpool, hentries, hcurrent, hincoming⟩, hsnapshot⟩
    exact ⟨hpool, hentries, hcurrent, hincoming, hsnapshot⟩

/-- What one command does keeps every grade within its ranges. -/
theorem Deed.gradesSound {i : Instr} (hs : GradesSound s) (h : Deed s i t) : GradesSound t := by
  obtain ⟨hheld, hsnapshot⟩ := gradesSound_iff.mp hs
  have hkept := h.gradesHeld hheld
  refine gradesSound_iff.mpr ⟨hkept, ?_⟩
  rcases h.snapshot_cases with ⟨straps, heq⟩ | heq | heq <;> rw [heq]
  · exact ⟨gradeOk_flat, nofun⟩
  · obtain ⟨-, -, hcurrent, hincoming⟩ := hkept
    refine ⟨hcurrent, fun g hg => ?_⟩
    obtain ⟨x, hx, rfl⟩ := Option.map_eq_some_iff.mp hg
    exact hincoming x hx
  · exact hsnapshot

end

/-- Settles O9: what an edit writes is stored within the ranges, and every copy is of a grade held. -/
theorem stepKeepsGrades : Obligations.StepKeepsGrades := by
  unfold Obligations.StepKeepsGrades
  intro s t hs hstep
  rcases step_cases hstep with rfl | ⟨c, rest, heffect⟩
  · exact hs
  · exact Deed.gradesSound (s := { s with pending := rest }) hs heffect.deed

end Sys2Proof.Machine

/-! The frame follower stays within the ranges of its tables (laws L5 and L6, R105, R107, R111). -/

namespace Sys2Proof.Machine

open Safety

/-- What is sound of the follower by itself: law L6, law L5 and the ranges of Tables 6-1 and 6-3 (R105, R111). -/
abbrev Follower.Sound (f : Follower) : Prop :=
  f.coast ≤ 8 ∧ f.fieldCount < 65536 ∧ ScheduleOk f.fieldCount f.schedule ∧
  (∀ e ∈ f.schedule, 1 ≤ e.span ∧ e.span ≤ 3 ∧ ∃ q ∈ f.reel, e.frame < q.length) ∧
  (∀ c ∈ f.current,
    1 ≤ c.shown ∧ c.shown ≤ c.span ∧ c.span ≤ 3 ∧ ∃ q ∈ f.reel, c.frame < q.length)

section
variable {f : Follower} {q u : List Announced} {e : Announced} {c : CurrentFrame} {count n : Nat}
  {s t : State}

/-! ## The schedule -/

/-- Entries at distinct distances of 1 to 3 fields are at most three (R105). -/
theorem length_of_distances (hrange : ∀ e ∈ q, 1 ≤ fieldDistance count e.first ∧
      fieldDistance count e.first ≤ 3)
    (horder : q.Pairwise (fun a b => fieldDistance count a.first < fieldDistance count b.first)) :
    q.length ≤ 3 := by
  have hnodup : (q.map (fun e => fieldDistance count e.first)).Nodup :=
    List.pairwise_map.mpr (horder.imp Nat.ne_of_lt)
  have hsub : q.map (fun e => fieldDistance count e.first) ⊆ [1, 2, 3] := by
    intro d hd
    obtain ⟨e, he, rfl⟩ := List.mem_map.mp hd
    obtain ⟨hlow, hhigh⟩ := hrange e he
    simp only [List.mem_cons, List.not_mem_nil, or_false]
    omega
  simpa using (List.subperm_of_subset hnodup hsub).length_le

/-- The schedule is in order within its distances: law L5 but for the length, which follows (R105). -/
theorem scheduleOk_of (hrange : ∀ e ∈ q, e.first < 65536 ∧ 1 ≤ fieldDistance count e.first ∧
      fieldDistance count e.first ≤ 3)
    (horder : q.Pairwise (fun a b => fieldDistance count a.first < fieldDistance count b.first)) :
    ScheduleOk count q :=
  ⟨length_of_distances (fun e he => (hrange e he).2) horder, hrange, horder⟩

/-- A frame due 1 to 3 fields ahead enters the schedule as its last entry (R104, R105). -/
theorem scheduleOk_enterSchedule (h : ScheduleOk count q) (hfirst : e.first < 65536)
    (hlow : 1 ≤ fieldDistance count e.first) (hhigh : fieldDistance count e.first ≤ 3) :
    ScheduleOk count (enterSchedule count e q) := by
  obtain ⟨-, hrange, horder⟩ := h
  unfold enterSchedule
  refine scheduleOk_of (fun x hx => ?_) ?_
  · rcases List.mem_append.mp hx with hx | hx
    · exact hrange x (List.mem_of_mem_filter hx)
    · obtain rfl := List.mem_singleton.mp hx
      exact ⟨hfirst, hlow, hhigh⟩
  · refine List.pairwise_append.mpr ⟨horder.filter _, List.pairwise_singleton _ _,
      fun a ha b hb => ?_⟩
    obtain rfl := List.mem_singleton.mp hb
    exact of_decide_eq_true (List.mem_filter.mp ha).2

/-- The distance of an entry ahead falls by one as the count advances (R101). -/
theorem fieldDistance_advance (hn : n < 65536)
    (hahead : 1 ≤ fieldDistance count n) :
    fieldDistance ((count + 1) % 65536) n = fieldDistance count n - 1 := by
  unfold fieldDistance at *
  omega

/-- The entries at least 2 fields ahead stay a schedule as the count advances (R101, R105). -/
theorem scheduleOk_advance (h : ScheduleOk count q) (hsub : u.Sublist q)
    (hahead : ∀ e ∈ u, 2 ≤ fieldDistance count e.first) :
    ScheduleOk ((count + 1) % 65536) u := by
  obtain ⟨-, hrange, horder⟩ := h
  have hdistance : ∀ e ∈ u, fieldDistance ((count + 1) % 65536) e.first =
      fieldDistance count e.first - 1 := by
    intro e he
    obtain ⟨hfirst, hlow, -⟩ := hrange e (hsub.subset he)
    exact fieldDistance_advance hfirst hlow
  refine scheduleOk_of (fun e he => ?_) ?_
  · obtain ⟨hfirst, -, hhigh⟩ := hrange e (hsub.subset he)
    have htwo := hahead e he
    rw [hdistance e he]
    omega
  · refine (horder.sublist hsub).imp_of_mem fun {a b} ha hb hlt => ?_
    have htwo := hahead a ha
    rw [hdistance a ha, hdistance b hb]
    omega

/-! ## The current frame -/

/-- The pulldown alternation stays within the spans (R110). -/
theorem alternateSpan_range (hlow : 1 ≤ n) (hhigh : n ≤ 3) :
    1 ≤ alternateSpan n ∧ alternateSpan n ≤ 3 := by
  unfold alternateSpan
  split
  · omega
  · split <;> omega

/-- A frame carried on stays within the reel, its span and the coast limit (R109, R110, R111). -/
theorem Follower.Sound.carryOn (h : f.Sound) : f.carryOn.Sound := by
  obtain ⟨hcoast, hcount, hschedule, hentries, hcurrent⟩ := h
  cases hc : f.current with
  | none =>
    rw [Follower.carryOn_of_unknown hc]
    exact ⟨hcoast, hcount, hschedule, hentries, hcurrent⟩
  | some c =>
    obtain ⟨hlow, hshown, hspan, hreel⟩ := hcurrent c hc
    by_cases hstill : c.speed = .still
    · rw [Follower.carryOn_of_still hc hstill]
      exact ⟨hcoast, hcount, hschedule, hentries, hcurrent⟩
    · by_cases hlt : c.shown < c.span
      · rw [Follower.carryOn_of_shown_lt hc hstill hlt]
        refine ⟨hcoast, hcount, hschedule, hentries, fun x hx => ?_⟩
        obtain rfl := Option.some.inj hx
        exact ⟨Nat.le_add_left _ _, hlt, hspan, hreel⟩
      · rw [Follower.carryOn_of_used_up hc hstill (Nat.not_lt.mp hlt)]
        by_cases hcoasts : f.Coasts c
        · rw [Follower.coastOn_of_coasts hreel hcoasts]
          obtain ⟨hlimit, hstart, p, hp, hend⟩ := hcoasts
          obtain ⟨hone, hthree⟩ := alternateSpan_range (hlow.trans hshown) hspan
          refine ⟨hlimit, hcount, hschedule, hentries, fun x hx => ?_⟩
          obtain rfl := Option.some.inj hx
          exact ⟨Nat.le_refl 1, hone, hthree, p, hp, by dsimp only; omega⟩
        · rw [Follower.coastOn_of_refused hreel hcoasts]
          exact ⟨hcoast, hcount, hschedule, hentries, hcurrent⟩

/-- The follower's boundary work stays within its ranges: the head of the schedule alone can be due (R105, R108). -/
theorem Follower.Sound.settle (h : f.Sound) : f.advance.settle.Sound := by
  obtain ⟨hcoast, hcount, hschedule, hentries, hcurrent⟩ := h
  have hadvanced : (f.fieldCount + 1) % 65536 < 65536 := Nat.mod_lt _ (by decide)
  have hdue : ∀ x ∈ f.schedule, fieldDistance f.fieldCount x.first ≤ 1 →
      x.first = f.advance.fieldCount := by
    intro x hx hone
    obtain ⟨hfirst, hlow, -⟩ := hschedule.2.1 x hx
    unfold fieldDistance at hlow hone
    simp only [Follower.advance_fields]
    omega
  cases hq : f.schedule with
  | nil =>
    have hnone : f.advance.due = none := Follower.due_eq_none fun x rest hx => by
      exact absurd (hq.symm.trans hx) nofun
    rw [Follower.settle_of_not_due hnone]
    refine Follower.Sound.carryOn ⟨hcoast, hadvanced, ?_, hentries, hcurrent⟩
    exact scheduleOk_advance hschedule (List.Sublist.refl _) (by simp [hq])
  | cons x rest =>
    rw [hq] at hschedule hentries hdue
    obtain ⟨-, hrange, horder⟩ := id hschedule
    obtain ⟨hlater, -⟩ := List.pairwise_cons.mp horder
    have hahead : ∀ y ∈ rest, 2 ≤ fieldDistance f.fieldCount y.first := by
      intro y hy
      obtain ⟨-, hlow, -⟩ := hrange x List.mem_cons_self
      have hlt := hlater y hy
      omega
    by_cases hfirst : x.first = f.advance.fieldCount
    · rw [Follower.settle_of_due (f := f.advance) hq hfirst]
      refine ⟨Nat.zero_le _, hadvanced,
        scheduleOk_advance hschedule (List.sublist_cons_self x rest) hahead,
        fun y hy => hentries y (List.mem_cons_of_mem x hy), fun c hc => ?_⟩
      obtain rfl := Option.some.inj hc
      obtain ⟨hone, hthree, hreel⟩ := hentries x List.mem_cons_self
      exact ⟨Nat.le_refl 1, hone, hthree, hreel⟩
    · have hnone : f.advance.due = none := Follower.due_eq_none fun y l hy => by
        obtain ⟨rfl, -⟩ := List.cons.inj (hq.symm.trans hy)
        exact hfirst
      have hx : 2 ≤ fieldDistance f.fieldCount x.first :=
        Nat.lt_of_not_le fun hone => hfirst (hdue x List.mem_cons_self hone)
      rw [Follower.settle_of_not_due hnone]
      refine Follower.Sound.carryOn ⟨hcoast, hadvanced, ?_, by
        rw [← hq] at hentries
        exact hentries, hcurrent⟩
      rw [← hq] at hschedule
      refine scheduleOk_advance hschedule (List.Sublist.refl _) fun y hy => ?_
      have hy : y ∈ x :: rest := hq ▸ hy
      rcases List.mem_cons.mp hy with rfl | hy
      · exact hx
      · exact hahead y hy

/-- A frame that is unknown, with an empty schedule, stays so (R109). -/
theorem Follower.settle_of_empty (hschedule : f.schedule = []) (hcurrent : f.current = none) :
    f.advance.settle.schedule = [] ∧ f.advance.settle.current = none := by
  have hnone : f.advance.due = none := Follower.due_eq_none fun x rest hx => by
    exact absurd (hschedule.symm.trans hx) nofun
  rw [Follower.settle_of_not_due hnone, Follower.carryOn_of_unknown (f := f.advance) hcurrent]
  exact ⟨hschedule, hcurrent⟩

/-! ## The follower in the engine -/

/-- Laws L5 and L6 are the follower's own soundness and its silence without lock or in the roll-call window (R107, R115, R116). -/
theorem followerSound_iff : FollowerSound s ↔ s.follower.Sound ∧
    (s.raster.locked = false ∨ s.rollCall ≠ none →
      s.follower.schedule = [] ∧ s.follower.current = none) := by
  constructor
  · rintro ⟨hcoast, hcount, hschedule, hentries, hcurrent, hquiet⟩
    exact ⟨⟨hcoast, hcount, hschedule, hentries, hcurrent⟩, hquiet⟩
  · rintro ⟨⟨hcoast, hcount, hschedule, hentries, hcurrent⟩, hquiet⟩
    exact ⟨hcoast, hcount, hschedule, hentries, hcurrent, hquiet⟩

/-- A follower with no frame announced and none known is sound (R105, R111). -/
theorem Follower.sound_of_empty (hcoast : f.coast = 0) (hcount : f.fieldCount < 65536)
    (hschedule : f.schedule = []) (hcurrent : f.current = none) : f.Sound := by
  refine ⟨by omega, hcount, ?_, ?_, ?_⟩
  · rw [hschedule]
    exact scheduleOk_of nofun .nil
  · simp [hschedule]
  · simp [hcurrent]

/-- The laws of the follower with no frame announced and none known (R105, R107, R111). -/
theorem followerSound_of_empty (hcoast : s.follower.coast = 0)
    (hcount : s.follower.fieldCount < 65536) (hschedule : s.follower.schedule = [])
    (hcurrent : s.follower.current = none) : FollowerSound s :=
  followerSound_iff.mpr ⟨Follower.sound_of_empty hcoast hcount hschedule hcurrent,
    fun _ => ⟨hschedule, hcurrent⟩⟩

/-- The laws of the follower are those of follower, lock and window alone. -/
theorem followerSound_congr (hs : FollowerSound s) (hfollower : t.follower = s.follower)
    (hquiet : t.raster.locked = false ∨ t.rollCall ≠ none →
      s.raster.locked = false ∨ s.rollCall ≠ none) : FollowerSound t := by
  obtain ⟨hsound, hempty⟩ := followerSound_iff.mp hs
  refine followerSound_iff.mpr ⟨hfollower ▸ hsound, fun h => ?_⟩
  rw [hfollower]
  exact hempty (hquiet h)

/-- What a cue does keeps the laws of the follower. -/
theorem Touch.followerSound (hs : FollowerSound s) (h : Touch s t) : FollowerSound t := by
  obtain ⟨⟨hcoast, hcount, hschedule, hentries, hcurrent⟩, hquiet⟩ := followerSound_iff.mp hs
  cases h with
  | line hwork =>
    rw [hwork]
    exact hs
  | reel => exact followerSound_of_empty rfl hcount rfl rfl
  | rethread =>
    exact followerSound_iff.mpr ⟨⟨hcoast, hcount, scheduleOk_of nofun .nil, nofun, nofun⟩,
      fun _ => ⟨rfl, rfl⟩⟩
  | @frame r e lead span hreel hwithin hlocked hwindow hlead hspan hcorrected hfirst =>
    have hdistance : 1 ≤ fieldDistance s.follower.fieldCount e.first ∧
        fieldDistance s.follower.fieldCount e.first ≤ 3 := by
      rw [hfirst]
      unfold fieldDistance correctedLead
      split <;> omega
    have hspans : 1 ≤ e.span ∧ e.span ≤ 3 := by
      rw [hcorrected]
      unfold correctedSpan
      split
      · omega
      · split <;> omega
    refine followerSound_iff.mpr ⟨⟨hcoast, hcount, ?_, fun x hx => ?_, hcurrent⟩, fun h => ?_⟩
    · exact scheduleOk_enterSchedule hschedule (hfirst ▸ Nat.mod_lt _ (by decide)) hdistance.1
        hdistance.2
    · rcases List.mem_append.mp hx with hx | hx
      · exact hentries x (List.mem_of_mem_filter hx)
      · obtain rfl := List.mem_singleton.mp hx
        exact ⟨hspans.1, hspans.2, r, hreel, hwithin⟩
    · exact absurd h (by simp [hlocked, hwindow])
  | hold | role => exact hs
  | lineReset => exact followerSound_of_empty rfl hcount rfl rfl
  | peerCut a reel frame =>
    rcases s.takePeerCut_cases a reel frame with heq | ⟨_, _, _, heq⟩ <;> rw [heq]
    · exact hs
    · exact followerSound_congr hs (by simp) (by simp)
  | owner c =>
    obtain ⟨-, -, -, hraster, -, -, -, -, -, hfollower, -, -, hwindow, -⟩ :=
      (ownerOf_owned c).frame
    exact followerSound_congr hs hfollower (by rw [hraster, hwindow]; exact id)

/-- A boundary keeps the laws of the follower (R108 to R111). -/
theorem followerSound_fieldBoundary (hs : FollowerSound s) :
    FollowerSound s.fieldBoundary := by
  obtain ⟨hsound, hquiet⟩ := followerSound_iff.mp hs
  obtain ⟨-, -, hfollower⟩ := State.fieldBoundary_fields (s := s)
  rw [State.followBoundary_follower] at hfollower
  obtain ⟨-, -, hwindow, -⟩ := State.fieldBoundary_frame (u := s)
  obtain ⟨hraster, -⟩ := State.fieldBoundary_fields (s := s)
  refine followerSound_iff.mpr ⟨hfollower ▸ hsound.settle, fun h => ?_⟩
  rw [hwindow, hraster] at h
  obtain ⟨hschedule, hcurrent⟩ := hquiet h
  rw [hfollower]
  exact Follower.settle_of_empty hschedule hcurrent

/-- A declaration of loss keeps the laws of the follower (R115). -/
theorem followerSound_loseLock (hs : FollowerSound s) : FollowerSound s.loseLock := by
  have hfollower : s.loseLock.follower = s.follower.loseLock := by simp [State.loseLock]
  obtain ⟨-, hcount, -⟩ := hs
  refine followerSound_of_empty ?_ ?_ ?_ ?_ <;> rw [hfollower]
  · rfl
  · exact hcount
  · rfl
  · rfl

/-- A pixel clock counts the roll-call window on, and neither opens nor ends it (R185). -/
theorem State.pixelClock_window (p : RGB Int) (a b c : Bool) :
    (s.pixelClock p a b c).rollCall = none ↔ s.rollCall = none := Option.map_eq_none_iff

/-- What one command does keeps the laws of the follower. -/
theorem Deed.followerSound {i : Instr} (hs : FollowerSound s) (h : Deed s i t) :
    FollowerSound t := by
  cases h with
  | powerOn straps =>
    obtain ⟨l, w, heq⟩ := State.powerOn_cases straps
    rw [heq]
    exact followerSound_of_empty rfl (Nat.zero_lt_succ _) rfl rfl
  | asserted => exact followerSound_of_empty rfl (Nat.zero_lt_succ _) rfl rfl
  | cues _ _ hchain => exact hchain.induction Touch.followerSound hs
  | fieldSync p =>
    rcases s.fieldSync_cases p with ⟨r, v, hlock, -, heq⟩ | ⟨r, v, hlock, -, -, heq⟩ | ⟨-, heq⟩ <;>
      rw [heq]
    · refine followerSound_fieldBoundary (s := { s with raster := r, video := v }) ?_
      exact followerSound_congr hs rfl (Or.imp_left fun h => absurd (hlock.symm.trans h) nofun)
    · exact followerSound_congr hs rfl fun _ => .inl hlock
    · exact followerSound_congr (followerSound_loseLock hs) rfl id
  | expiry =>
    rcases s.missingSync_cases with ⟨r, hlock, heq⟩ | ⟨-, heq⟩ <;> rw [heq]
    · exact followerSound_congr hs rfl (Or.imp_left fun h => hlock.symm.trans h)
    · exact followerSound_loseLock (s := s.expired) hs
  | pixelClock =>
    refine followerSound_congr hs (by simp) (Or.imp id fun h hnone => h ?_)
    exact (State.pixelClock_window ..).mpr hnone
  | windowEnd => exact followerSound_congr hs rfl (Or.imp_right fun h => absurd rfl h)
  | lineSync | held => exact hs

end

end Sys2Proof.Machine

/-! The transition controller and the cut detector stay within the ranges of their tables (law L7, R120, R142, R144). -/

namespace Sys2Proof.Machine

open Safety

/-- What is sound of the controller by itself: law L7 but for the lock (R120). -/
abbrev Controller.Sound (c : Controller) : Prop :=
  (c.incoming = none → c.count = 0 ∧ c.length = 0) ∧
  (c.incoming ≠ none → 1 ≤ c.count ∧ c.count ≤ c.length ∧ c.length ≤ 63)

/-- The table has a record at frame 0, and dissolve lengths in 1..63, as a lookup needs them (R66, R71). -/
abbrev State.LookedUp (s : State) : Prop :=
  (∃ x ∈ s.scenes, x.start = 0) ∧ ∀ r ∈ s.scenes, 1 ≤ r.length ∧ r.length ≤ 63

section
variable {s t u : State} {c : Controller} {v : Measure}

/-! ## The controller -/

/-- Law L7 with no dissolve running (R120). -/
theorem Controller.sound_of_idle (hincoming : c.incoming = none) (hcount : c.count = 0)
    (hlength : c.length = 0) : c.Sound :=
  ⟨fun _ => ⟨hcount, hlength⟩, fun h => absurd hincoming h⟩

/-- Law L7 with a dissolve running (R120). -/
theorem Controller.sound_of_running (hincoming : c.incoming ≠ none) (hlow : 1 ≤ c.count)
    (hcount : c.count ≤ c.length) (hlength : c.length ≤ 63) : c.Sound :=
  ⟨fun h => absurd h hincoming, fun _ => ⟨hlow, hcount, hlength⟩⟩

/-- Law L7 speaks of the counts and of whether a dissolve runs (R120). -/
theorem Controller.Sound.congr {d : Controller} (h : c.Sound)
    (hincoming : d.incoming = none ↔ c.incoming = none) (hcount : d.count = c.count)
    (hlength : d.length = c.length) : d.Sound := by
  unfold Controller.Sound
  rw [ne_eq, hincoming, hcount, hlength]
  exact h

/-- A completed dissolve keeps law L7 (R123). -/
theorem Controller.Sound.completed (h : c.Sound) : (completed c).Sound := by
  unfold Safety.completed
  split
  next => exact h
  next => exact Controller.sound_of_idle rfl rfl rfl

/-- The count of a dissolve keeps law L7: it goes to N at most (R123). -/
theorem Controller.Sound.counted (h : c.Sound) : (counted c).Sound := by
  unfold Safety.counted
  split
  next => exact h
  next i hi =>
    obtain ⟨-, -, hlength⟩ := h.2 (hi ▸ Option.some_ne_none i)
    split
    next hle =>
      exact Controller.sound_of_running (by dsimp only; exact hi ▸ Option.some_ne_none i)
        (Nat.le_add_left _ _) hle hlength
    next => exact Controller.sound_of_idle rfl rfl rfl

/-- The controller's boundary work keeps law L7: a dissolve begins at 1 with the length of a scene of the table (R120, R128). -/
theorem Conducted.sound (hs : s.controller.Sound) (hscenes : s.LookedUp) (h : Conducted s c) :
    c.Sound := by
  obtain ⟨hzero, hlengths⟩ := hscenes
  have hcounted := hs.counted
  have hcompleted := hcounted.completed
  cases h with
  | counted x => exact hcounted
  | kept => exact hcompleted
  | cut n => exact hcompleted.congr .rfl rfl rfl
  | dissolve n =>
    obtain ⟨hlow, hhigh⟩ := hlengths _ (sceneOf_mem hzero n).1
    exact Controller.sound_of_running nofun (Nat.le_refl 1) hlow hhigh

/-- The controller's boundary work keeps law L7. -/
theorem State.controllerBoundary_sound (hs : s.controller.Sound) (hscenes : s.LookedUp) (b : Bool) :
    (s.controllerBoundary b).controller.Sound := by
  obtain ⟨c, hc, hcontroller⟩ := s.controllerBoundary_conducted b
  rw [hcontroller]
  exact (hc.sound hs hscenes).congr Option.map_eq_none_iff rfl rfl

/-- A firing keeps what a lookup needs of the table (R81). -/
theorem State.LookedUp.fire (h : s.LookedUp) (v : Measure) : (s.fire v).LookedUp := by
  have hwork := State.lineWork_cutReported (s := s) v
  have hreported : (s.cutReported v).LookedUp := by
    rw [hwork]
    exact h
  rw [State.fire_eq_propose]
  split
  next =>
    rcases (s.cutReported v).propose_cases v.frame .detector with heq | heq | ⟨hfree, -, heq⟩ <;>
      rw [heq]
    · exact hreported
    · simpa [State.LookedUp] using hreported
    · have hmem := fun x => mem_insertScene (x := x)
        (r := ⟨v.frame, (sceneOf (s.cutReported v).scenes v.frame).slot, .cut, 1, .detector, false⟩)
        (sceneAt_none.mp hfree)
      obtain ⟨⟨x, hx, hzero⟩, hlengths⟩ := hreported
      have hscenes : ∀ r, ((s.cutReported v).insertRecord r).scenes =
          insertScene r (s.cutReported v).scenes := fun r => by simp [State.insertRecord]
      unfold State.LookedUp
      rw [hscenes]
      refine ⟨⟨x, (hmem x).mpr (.inr hx), hzero⟩, fun r hr => ?_⟩
      rcases (hmem r).mp hr with rfl | hr
      · exact ⟨Nat.le_refl 1, (by decide : 1 ≤ 63)⟩
      · exact hlengths r hr
  next => exact hreported

/-- A firing leaves the controller (R146). -/
theorem State.followedWork_sound (hs : s.controller.Sound) (hscenes : s.LookedUp) :
    s.followedWork.controller.Sound := by
  have hfollowed : s.followBoundary.controller.Sound ∧ s.followBoundary.LookedUp := by
    simpa [State.LookedUp] using And.intro hs hscenes
  obtain ⟨hsound, hlooked⟩ := hfollowed
  rw [State.followedWork]
  rcases s.followBoundary.fireAndControl_cases s.firing s.arrives with
    ⟨-, heq⟩ | ⟨v, -, heq | heq⟩ <;> rw [heq]
  · exact State.controllerBoundary_sound hsound hlooked _
  · refine State.controllerBoundary_sound ?_ (State.LookedUp.fire (s := { s.followBoundary with
      freeCount := s.followBoundary.freeCount + 1 }) hlooked v) _
    simpa using hsound
  · have hcontrolled := State.controllerBoundary_sound (s := { s.followBoundary with
      freeCount := s.followBoundary.freeCount + 1 }) hsound hlooked s.arrives
    simpa using hcontrolled

/-- Law L7 is the controller's own soundness, and no dissolve without lock (R120, R133). -/
theorem controllerSound_iff : ControllerSound s ↔ s.controller.Sound ∧
    (s.raster.locked = false → s.controller.incoming = none) := by
  unfold ControllerSound Controller.Sound
  rw [and_assoc]

/-- Law L7 with no dissolve running (R120). -/
theorem controllerSound_of_idle (hincoming : s.controller.incoming = none)
    (hcount : s.controller.count = 0) (hlength : s.controller.length = 0) : ControllerSound s :=
  controllerSound_iff.mpr
    ⟨Controller.sound_of_idle hincoming hcount hlength, fun _ => hincoming⟩

/-- Law L7 speaks of the counts, of whether a dissolve runs, and of the lock. -/
theorem controllerSound_congr (hs : ControllerSound s)
    (hincoming : t.controller.incoming = none ↔ s.controller.incoming = none)
    (hcount : t.controller.count = s.controller.count)
    (hlength : t.controller.length = s.controller.length)
    (hlocked : t.raster.locked = false → s.raster.locked = false) : ControllerSound t := by
  obtain ⟨hsound, hidle⟩ := controllerSound_iff.mp hs
  exact controllerSound_iff.mpr ⟨hsound.congr hincoming hcount hlength,
    fun h => hincoming.mpr (hidle (hlocked h))⟩

/-- What leaves controller and raster keeps law L7. -/
theorem controllerSound_same (hs : ControllerSound s) (hcontroller : t.controller = s.controller)
    (hraster : t.raster = s.raster) : ControllerSound t :=
  controllerSound_congr hs (by rw [hcontroller]) (by rw [hcontroller]) (by rw [hcontroller])
    (by rw [hraster]; exact id)

/-- A revert marks contexts at most (R58, R82). -/
theorem State.revert_controller (e : Entry) :
    (s.revert e).controller = s.controller ∨
    ∃ n, (s.revert e).controller = s.controller.markSlot n := by
  unfold State.revert
  split
  next => split <;> exact .inl rfl
  next => exact .inl rfl
  next => split <;> exact .inl rfl
  next n _ => exact .inr ⟨n, rfl⟩
  next n _ => exact .inr ⟨n, rfl⟩

/-- An owner marks contexts at most (R58). -/
theorem Owned.controller {named : Option Byte} (h : Owned s named t) :
    t.controller = s.controller ∨ ∃ n, t.controller = s.controller.markSlot n := by
  cases h with
  | primary | vectors => exact .inr ⟨_, by simp [State.editVectors]; rfl⟩
  | @undone e =>
    rw [State.undoEntry_eq]
    exact State.revert_controller e
  | cancelled =>
    refine .inl ?_
    rw [State.lineWork_replyCancelled]
  | marked | set | purged => exact .inl (by simp)
  | cleared => exact .inl (by simp [State.clearRecord])
  | same | allocated | dropped | loadStarted | loaded | installed | enables | profile | latches =>
    exact .inl rfl

/-- What a cue does keeps law L7. -/
theorem Touch.controllerSound (hs : ControllerSound s) (h : Touch s t) : ControllerSound t := by
  cases h with
  | line hwork =>
    rw [hwork]
    exact hs
  | reel => exact controllerSound_of_idle rfl rfl rfl
  | peerCut a reel frame =>
    rcases s.takePeerCut_cases a reel frame with heq | ⟨_, _, _, heq⟩ <;> rw [heq]
    · exact hs
    · exact controllerSound_same hs (by simp) (by simp)
  | owner c =>
    obtain ⟨-, -, -, hraster, -⟩ := (ownerOf_owned c).frame
    rcases (ownerOf_owned c).controller with heq | ⟨n, heq⟩
    · exact controllerSound_same hs heq hraster
    · refine controllerSound_congr hs ?_ ?_ ?_ (by rw [hraster]; exact id) <;> rw [heq]
      · exact Option.map_eq_none_iff
      · rfl
      · rfl
  | rethread | frame | hold | role | lineReset => exact hs

/-- A declaration of loss ends a dissolve (R133). -/
theorem controllerSound_loseLock (hs : ControllerSound s) : ControllerSound s.loseLock := by
  obtain ⟨hsound, -⟩ := controllerSound_iff.mp hs
  obtain ⟨-, -, -, -, -, hcontroller, -⟩ := State.loseLock_effects (s := s)
  refine controllerSound_iff.mpr ⟨hcontroller ▸ hsound.completed, fun _ => ?_⟩
  rw [hcontroller, completed_incoming]

/-- What one command does keeps law L7, when the table is sound. -/
theorem Deed.controllerSound {i : Instr} (hs : ControllerSound s) (hscenes : s.LookedUp)
    (h : Deed s i t) : ControllerSound t := by
  cases h with
  | powerOn straps =>
    obtain ⟨l, w, heq⟩ := State.powerOn_cases straps
    rw [heq]
    exact controllerSound_of_idle rfl rfl rfl
  | asserted => exact controllerSound_of_idle rfl rfl rfl
  | cues _ _ hchain => exact hchain.induction Touch.controllerSound hs
  | fieldSync p =>
    rcases s.fieldSync_cases p with ⟨r, v, hlock, -, heq⟩ | ⟨r, v, hlock, -, -, heq⟩ | ⟨-, heq⟩ <;>
      rw [heq]
    · obtain ⟨hsound, -⟩ := controllerSound_iff.mp hs
      obtain ⟨hraster, -⟩ := State.fieldBoundary_fields (s := { s with raster := r, video := v })
      refine controllerSound_iff.mpr ⟨?_, fun h => ?_⟩
      · rw [State.fieldBoundary_kept.1]
        exact State.followedWork_sound (s := { s with raster := r, video := v }) hsound hscenes
      · rw [hraster] at h
        exact absurd (hlock.symm.trans h) nofun
    · exact controllerSound_congr hs .rfl rfl rfl fun _ => hlock
    · exact controllerSound_congr (controllerSound_loseLock hs) .rfl rfl rfl id
  | expiry =>
    rcases s.missingSync_cases with ⟨r, hlock, heq⟩ | ⟨-, heq⟩ <;> rw [heq]
    · exact controllerSound_congr hs .rfl rfl rfl fun h => hlock.symm.trans h
    · exact controllerSound_loseLock (s := s.expired) hs
  | pixelClock => exact controllerSound_congr hs (by simp) (by simp) (by simp) id
  | lineSync | held | windowEnd => exact hs

/-! ## The detector -/

/-- Two histograms differ by no more than all their samples (R144). -/
theorem histogramDifference_le (a b : List Nat) : histogramDifference a b ≤ a.sum + b.sum := by
  induction a generalizing b with
  | nil => exact Nat.zero_le _
  | cons x xs ih =>
    cases b with
    | nil => exact Nat.zero_le _
    | cons y ys =>
      have hrest := ih ys
      rw [histogramDifference, List.sum_cons, List.sum_cons]
      omega

/-- The measure of two whole fields lies in 0..1024 (R144). -/
theorem measureOf_le {std : Standard} {a b : List Nat} (ha : a.sum = Config.fieldSamples std)
    (hb : b.sum = Config.fieldSamples std) : measureOf std (histogramDifference a b) ≤ 1024 := by
  have hle := histogramDifference_le a b
  unfold measureOf
  refine Nat.div_le_of_le_mul ?_
  omega

/-- The laws of the detector are those of detector, standard and reel alone. -/
theorem detectorSound_congr (hs : DetectorSound s) (hdetector : t.detector = s.detector)
    (hstraps : t.straps = s.straps) (hreel : t.follower.reel = s.follower.reel) :
    DetectorSound t := by
  unfold DetectorSound
  rw [hdetector, hstraps, hreel]
  exact hs

/-- A measure that a comparison makes lies in 0..1024 (R144). -/
theorem State.comparison_le (hs : DetectorSound s) (h : s.comparison = some v) :
    v.value ≤ 1024 := by
  obtain ⟨-, hreference, -⟩ := hs
  rw [State.comparison_eq] at h
  split at h
  next k q _ hq =>
    split at h
    next hmade =>
      cases h
      exact measureOf_le hmade.1 (hreference q hq).2
    next => cases h
  next => cases h

/-- A boundary keeps the laws of the detector: the field closed was whole where it becomes the reference, and the frame captured is the current one (R141, R142). -/
theorem detectorSound_fieldBoundary (hs : DetectorSound s)
    (hcurrent : ∀ c ∈ s.fieldBoundary.follower.current,
      ∃ q ∈ s.fieldBoundary.follower.reel, c.frame < q.length) :
    DetectorSound s.fieldBoundary := by
  have hmeasures := fun v => State.comparison_le (v := v) hs
  obtain ⟨hbins, hreference, hmeasure, -⟩ := hs
  obtain ⟨hstraps, -⟩ := State.fieldBoundary_frame (u := s)
  refine ⟨List.length_replicate, fun r hr => ?_, fun m hm => ?_, fun c hc => ?_⟩
  · rw [hstraps]
    rw [State.fieldBoundary_detector, State.closedDetector] at hr
    dsimp only at hr
    split at hr
    next k hwhole =>
      unfold State.wholeCapture at hwhole
      split at hwhole
      next hsum =>
        obtain rfl := Option.some.inj hr
        exact ⟨hbins, hsum⟩
      next => cases hwhole
    next => exact hreference r hr
  · rw [State.fieldBoundary_measure] at hm
    split at hm
    next => exact hmeasure m hm
    next => exact hmeasures m hm
  · rw [State.fieldBoundary_detector] at hc
    dsimp only at hc
    unfold State.fieldCapture at hc
    split at hc
    next f _ hf =>
      obtain rfl := Option.some.inj hc
      exact hcurrent f hf
    next => cases hc

/-- What a cue does keeps the laws of the detector. -/
theorem Touch.detectorSound (hs : DetectorSound s) (h : Touch s t) : DetectorSound t := by
  cases h with
  | line hwork =>
    rw [hwork]
    exact hs
  | reel =>
    obtain ⟨hbins, -, hmeasure, -⟩ := hs
    exact ⟨hbins, nofun, hmeasure, nofun⟩
  | peerCut a reel frame =>
    rcases s.takePeerCut_cases a reel frame with heq | ⟨_, _, _, heq⟩ <;> rw [heq]
    · exact hs
    · exact detectorSound_congr hs (by simp) (by simp) (by simp)
  | owner c =>
    obtain ⟨hstraps, -, -, -, -, -, -, -, -, hfollower, hdetector, -⟩ := (ownerOf_owned c).frame
    exact detectorSound_congr hs hdetector hstraps (congrArg Follower.reel hfollower)
  | rethread | frame | hold | role | lineReset => exact hs

/-- A declaration of loss keeps the laws of the detector (R140, R141). -/
theorem detectorSound_loseLock (hs : DetectorSound s) : DetectorSound s.loseLock := by
  obtain ⟨-, hreference, hmeasure, -⟩ := hs
  obtain ⟨-, -, -, -, -, -, hdetector, -⟩ := State.loseLock_effects (s := s)
  have hstraps : s.loseLock.straps = s.straps := by simp [State.loseLock]
  unfold DetectorSound
  rw [hdetector, hstraps]
  exact ⟨List.length_replicate, hreference, hmeasure, nofun⟩

/-- The laws of a detector that has seen nothing. -/
theorem detectorSound_of_initial (h : t.detector = ⟨List.replicate 16 0, none, none, none⟩) :
    DetectorSound t := by
  unfold DetectorSound
  rw [h]
  exact ⟨rfl, nofun, nofun, nofun⟩

/-- What one command does keeps the laws of the detector. -/
theorem Deed.detectorSound {i : Instr} (hs : DetectorSound s) (hfollower : FollowerSound s)
    (h : Deed s i t) : DetectorSound t := by
  have hfollowed := h.followerSound hfollower
  cases h with
  | powerOn straps =>
    obtain ⟨l, w, heq⟩ := State.powerOn_cases straps
    rw [heq]
    exact detectorSound_of_initial rfl
  | asserted => exact detectorSound_of_initial rfl
  | cues _ _ hchain => exact hchain.induction Touch.detectorSound hs
  | fieldSync p =>
    rcases s.fieldSync_cases p with ⟨r, v, -, -, heq⟩ | ⟨r, v, -, -, -, heq⟩ | ⟨-, heq⟩ <;>
      rw [heq] at hfollowed ⊢
    · obtain ⟨-, -, -, -, hcurrent, -⟩ := hfollowed
      refine detectorSound_fieldBoundary (s := { s with raster := r, video := v }) hs
        fun c hc => ?_
      exact (hcurrent c hc).2.2.2
    · exact hs
    · exact detectorSound_congr (detectorSound_loseLock hs) rfl rfl rfl
  | expiry =>
    have hexpired : DetectorSound s.expired := by
      obtain ⟨hbins, hreference, hmeasure, -⟩ := hs
      exact ⟨hbins, hreference, hmeasure, nofun⟩
    rcases s.missingSync_cases with ⟨r, -, heq⟩ | ⟨-, heq⟩ <;> rw [heq]
    · exact hexpired
    · exact detectorSound_loseLock hexpired
  | pixelClock =>
    obtain ⟨hbins, hreference, hmeasure, hcapture⟩ := hs
    exact ⟨State.length_binsNow.trans hbins, hreference, hmeasure, hcapture⟩
  | lineSync | held | windowEnd => exact hs

end

/-- Settles O10: follower and detector keep their laws together, the controller because every scene of the table has a length in 1..63. -/
theorem stepKeepsFollowing : Obligations.StepKeepsFollowing := by
  unfold Obligations.StepKeepsFollowing
  intro s t hfollower hcontroller hdetector hscenes hstep
  have hok := tableOk_of_scenesSound hscenes
  have hlooked : s.LookedUp := ⟨tableOk_head hok, hok.2.2.2.1⟩
  rcases step_cases hstep with rfl | ⟨c, rest, heffect⟩
  · exact ⟨hfollower, hcontroller, hdetector⟩
  · have hdeed := heffect.deed
    exact ⟨hdeed.followerSound (s := { s with pending := rest }) hfollower,
      hdeed.controllerSound (s := { s with pending := rest }) hcontroller hlooked,
      hdeed.detectorSound (s := { s with pending := rest }) hdetector hfollower⟩

end Sys2Proof.Machine

/-! The stores, the loader and the profile stay within their ranges (law L9, R27, R29, R194). -/

namespace Sys2Proof.Machine

open Safety

section
variable {s t u : State} {l : Loader} {target : LoadTarget} {b : List Nat}

/-! ## The stores -/

/-- What is sound of the curves and the shading tables (R27, R29). -/
abbrev State.TablesSound (s : State) : Prop :=
  s.curves.length = 16 ∧ s.curves.head? = some identityCurve ∧ (∀ t ∈ s.curves, CurveOk t) ∧
  ShadingOk s.shadeH ∧ ShadingOk s.shadeV

/-- What is sound of the loader: an IDLE one is empty, another one holds a table of its target (Table 2-1). -/
abbrev Loader.Sound (l : Loader) : Prop :=
  (l.state = .idle → l = Loader.idle) ∧
  (l.state ≠ .idle → ∃ t ∈ l.target, tableOk t l.buffer = true ∧ l.pointer < l.buffer.length) ∧
  (l.state = .filling → l.requester = none)

/-- Law L9 is the tables' soundness and the loader's. -/
theorem storesSound_iff : StoresSound s ↔ s.TablesSound ∧ s.loader.Sound := by
  constructor
  · rintro ⟨h1, h2, h3, h4, h5, hloader⟩
    exact ⟨⟨h1, h2, h3, h4, h5⟩, hloader⟩
  · rintro ⟨⟨h1, h2, h3, h4, h5⟩, hloader⟩
    exact ⟨h1, h2, h3, h4, h5, hloader⟩

/-- The laws of the tables are those of curves and shading tables alone. -/
theorem State.TablesSound.congr (hs : s.TablesSound) (hcurves : t.curves = s.curves)
    (hshadeH : t.shadeH = s.shadeH) (hshadeV : t.shadeV = s.shadeV) : t.TablesSound := by
  unfold State.TablesSound
  rw [hcurves, hshadeH, hshadeV]
  exact hs

/-- The loader in IDLE is sound (R30). -/
theorem Loader.sound_idle : Loader.idle.Sound := ⟨fun _ => rfl, fun h => absurd rfl h, nofun⟩

/-- A target that is not curve 0 has a table in its range (R27, R29, R33). -/
theorem State.TablesSound.tableOf (hs : s.TablesSound) (h0 : target ≠ .curve 0)
    (h16 : ∀ n, target = .curve n → n < 16) : tableOk target (s.tableOf target) = true := by
  obtain ⟨hlength, -, hcurves, hshadeH, hshadeV⟩ := hs
  cases target with
  | curve n =>
    have hn : n < s.curves.length := hlength ▸ h16 n rfl
    refine decide_eq_true ⟨?_, h16 n rfl, ?_⟩
    · exact Nat.one_le_iff_ne_zero.mpr fun h => h0 (h ▸ rfl)
    · rw [State.tableOf, List.getD_eq_getElem?_getD, List.getElem?_eq_getElem hn]
      exact hcurves _ (List.getElem_mem hn)
  | shadingH => exact decide_eq_true hshadeH
  | shadingV => exact decide_eq_true hshadeV

/-- The target's table replaced by one in its range keeps the laws: curve 0 is no target (R27, R39). -/
theorem State.TablesSound.installTable (hs : s.TablesSound) (hok : tableOk target b = true) :
    (s.installTable target b).TablesSound := by
  obtain ⟨hlength, hidentity, hcurves, hshadeH, hshadeV⟩ := hs
  cases target with
  | curve n =>
    obtain ⟨hlow, -, hcurve⟩ : 1 ≤ n ∧ n < 16 ∧ CurveOk b := of_decide_eq_true hok
    have htaken : s.installTable (.curve n) b = { s with curves := s.curves.set n b } :=
      if_neg (Nat.ne_of_gt hlow)
    rw [htaken]
    refine ⟨(List.length_set ..).trans hlength, ?_, fun t ht => ?_, hshadeH, hshadeV⟩
    · rw [← hidentity, List.head?_eq_getElem?, List.head?_eq_getElem?]
      exact List.getElem?_set_ne (Nat.ne_of_gt hlow)
    · rcases List.mem_or_eq_of_mem_set ht with ht | rfl
      · exact hcurves t ht
      · exact hcurve
  | shadingH => exact ⟨hlength, hidentity, hcurves, of_decide_eq_true hok, hshadeV⟩
  | shadingV => exact ⟨hlength, hidentity, hcurves, hshadeH, of_decide_eq_true hok⟩

/-- A pending install that completes keeps the laws (R39). -/
theorem storesSound_installBoundary (hs : StoresSound s) : StoresSound s.installBoundary := by
  obtain ⟨htables, -, hloading, -⟩ := storesSound_iff.mp hs
  by_cases hpending : s.loader.state = .installPending
  case neg =>
    rw [State.installBoundary_of_none hpending]
    exact hs
  obtain ⟨target, htarget, hok, -⟩ := hloading (hpending ▸ nofun)
  have htaken : StoresSound (s.tableTaken target) :=
    storesSound_iff.mpr ⟨(htables.installTable hok).congr rfl rfl rfl, Loader.sound_idle⟩
  obtain ⟨hnone, hsome⟩ := State.installBoundary_of_pending hpending htarget
  cases hrequester : s.loader.requester with
  | none => exact hnone hrequester ▸ htaken
  | some a =>
    rw [hsome a hrequester]
    obtain ⟨hkept, hidle⟩ := storesSound_iff.mp htaken
    exact storesSound_iff.mpr ⟨hkept.congr (by simp) (by simp) (by simp), by simpa using hidle⟩

/-! ## The loader -/

/-- A loader that fills a table of its target (R33, R35). -/
abbrev Loader.Fills (target : LoadTarget) (l : Loader) : Prop :=
  l.state = .filling ∧ l.target = some target ∧ tableOk target l.buffer = true ∧
  l.pointer < l.buffer.length ∧ l.requester = none

/-- A filling loader is sound (Table 2-1). -/
theorem Loader.Fills.sound (h : l.Fills target) : l.Sound := by
  obtain ⟨hstate, htarget, hok, hpointer, hrequester⟩ := h
  exact ⟨fun hidle => absurd (hstate.symm.trans hidle) nofun,
    fun _ => ⟨target, htarget, hok, hpointer⟩, fun _ => hrequester⟩

/-- A limited number lies within the limits. -/
theorem clampNat_mem {low high v : Nat} (h : low ≤ high) :
    low ≤ clampNat low high v ∧ clampNat low high v ≤ high := by
  rw [clampNat_eq h]
  omega

/-- A value limited to the target's range keeps the table in it (R35). -/
theorem tableOk_set (h : tableOk target b = true) (n v : Nat) :
    tableOk target (b.set n (target.clamp v)) = true := by
  have hmem : ∀ {P : Nat → Prop}, (∀ x ∈ b, P x) → P (target.clamp v) →
      ∀ x ∈ b.set n (target.clamp v), P x := by
    intro P hb hv x hx
    rcases List.mem_or_eq_of_mem_set hx with hx | rfl
    · exact hb x hx
    · exact hv
  cases target with
  | curve k =>
    obtain ⟨hlow, hhigh, hlength, hpoints⟩ : 1 ≤ k ∧ k < 16 ∧ CurveOk b := of_decide_eq_true h
    exact decide_eq_true ⟨hlow, hhigh, (List.length_set ..).trans hlength,
      hmem hpoints (clampNat_mem (Nat.zero_le _)).2⟩
  | shadingH | shadingV =>
    obtain ⟨hlength, hgains⟩ : ShadingOk b := of_decide_eq_true h
    exact decide_eq_true ⟨(List.length_set ..).trans hlength,
      hmem hgains (clampNat_mem (by decide))⟩

/-- The pointer stays within the table as it moves (R34). -/
theorem movePointer_lt {size p : Nat} (h : p < size) (m : PointerMode) :
    movePointer m size p < size := by
  cases m with
  | increment =>
    unfold movePointer
    dsimp only
    split <;> omega
  | decrement =>
    unfold movePointer
    dsimp only
    split <;> omega
  | hold => exact h

/-- Values loaded keep the loader filling a table in range (R35). -/
theorem Loader.Fills.writeValues (h : l.Fills target) (vs : List Nat) :
    (vs.foldl (Loader.writeValue target) l).Fills target := by
  induction vs generalizing l with
  | nil => exact h
  | cons v vs ih =>
    obtain ⟨hstate, htarget, hok, hpointer, hrequester⟩ := h
    have hsize := length_of_tableOk hok
    refine ih ⟨hstate, htarget, tableOk_set hok _ _, ?_, hrequester⟩
    refine (movePointer_lt (hsize ▸ hpointer) l.mode).trans_eq ?_
    exact hsize.symm.trans (List.length_set ..).symm

/-- What an owner does keeps law L9: a load starts with its target's table, and writes within its range (R33, R35). -/
theorem Owned.storesSound (hs : StoresSound s) {named : Option Byte} (h : Owned s named t) :
    StoresSound t := by
  obtain ⟨htables, hloader⟩ := storesSound_iff.mp hs
  have hframe := h.frame
  obtain ⟨-, -, -, -, -, -, hcurves, hshadeH, hshadeV, -⟩ := hframe
  refine storesSound_iff.mpr ⟨htables.congr hcurves hshadeH hshadeV, ?_⟩
  cases h with
  | @loadStarted target m start hidle h0 h16 =>
    have hok := htables.tableOf h0 h16
    have hsize := length_of_tableOk hok
    refine Loader.Fills.sound (target := target) ⟨rfl, rfl, hok, ?_, rfl⟩
    dsimp only
    rw [hsize]
    exact Nat.mod_lt _ (by cases target <;> exact Nat.zero_lt_succ _)
  | @loaded target vs hstate htarget =>
    obtain ⟨-, hloading, hrequester⟩ := hloader
    obtain ⟨x, hx, hok, hpointer⟩ := hloading (hstate ▸ nofun)
    obtain rfl := Option.some.inj (htarget.symm.trans hx)
    exact Loader.Fills.sound
      (Loader.Fills.writeValues ⟨hstate, htarget, hok, hpointer, hrequester hstate⟩ vs)
  | installed a hstate =>
    obtain ⟨-, hloading, -⟩ := hloader
    exact ⟨nofun, fun _ => hloading (hstate ▸ nofun), nofun⟩
  | cancelled => exact Loader.sound_idle
  | @undone e =>
    have hkept : (s.undoEntry e).loader = s.loader := by
      rw [State.undoEntry_work]
    exact hkept ▸ hloader
  | marked | set | purged | primary => simpa using hloader
  | cleared => simpa [State.clearRecord] using hloader
  | vectors => simpa [State.editVectors] using hloader
  | same | allocated | dropped | enables | profile | latches => exact hloader

/-- What leaves the stores and the loader keeps law L9. -/
theorem storesSound_same (hs : StoresSound s) (hcurves : t.curves = s.curves)
    (hshadeH : t.shadeH = s.shadeH) (hshadeV : t.shadeV = s.shadeV)
    (hloader : t.loader = s.loader) : StoresSound t := by
  obtain ⟨htables, hsound⟩ := storesSound_iff.mp hs
  exact storesSound_iff.mpr ⟨htables.congr hcurves hshadeH hshadeV, hloader ▸ hsound⟩

/-- What a cue does keeps law L9. -/
theorem Touch.storesSound (hs : StoresSound s) (h : Touch s t) : StoresSound t := by
  cases h with
  | line hwork =>
    rw [hwork]
    exact hs
  | peerCut a reel frame =>
    rcases s.takePeerCut_cases a reel frame with heq | ⟨_, _, _, heq⟩ <;> rw [heq]
    · exact hs
    · exact storesSound_same hs (by simp) (by simp) (by simp) (by simp)
  | owner c => exact (ownerOf_owned c).storesSound hs
  | lineReset =>
    exact storesSound_iff.mpr ⟨(storesSound_iff.mp hs).1, Loader.sound_idle⟩
  | reel | rethread | frame | hold | role => exact hs

/-- A boundary keeps law L9 (R39). -/
theorem storesSound_fieldBoundary (hs : StoresSound s) : StoresSound s.fieldBoundary := by
  obtain ⟨-, -, hcurves, hshadeH, hshadeV, hloader, -⟩ := State.followedWork_fields (u := s)
  have hfilm : StoresSound s.followedWork.filmTaken :=
    storesSound_same hs hcurves hshadeH hshadeV hloader
  exact storesSound_installBoundary hfilm

/-- The stores after a reset (R27, R29). -/
theorem storesSound_of_initial (hcurves : t.curves = List.replicate 16 identityCurve)
    (hshadeH : t.shadeH = List.replicate 64 1024) (hshadeV : t.shadeV = List.replicate 64 1024)
    (hloader : t.loader = Loader.idle) : StoresSound t := by
  have hidentity : CurveOk identityCurve := by
    refine ⟨by simp [identityCurve], fun v hv => ?_⟩
    simp only [identityCurve, List.mem_map, List.mem_range] at hv
    obtain ⟨i, hi, rfl⟩ := hv
    omega
  have hshading : ShadingOk (List.replicate 64 1024) :=
    ⟨List.length_replicate, fun v hv => by rw [List.eq_of_mem_replicate hv]; decide⟩
  refine storesSound_iff.mpr ⟨⟨?_, ?_, fun c hc => ?_, hshadeH ▸ hshading, hshadeV ▸ hshading⟩,
    hloader ▸ Loader.sound_idle⟩
  · rw [hcurves, List.length_replicate]
  · rw [hcurves]
    rfl
  · rw [hcurves] at hc
    exact List.eq_of_mem_replicate hc ▸ hidentity

/-- What one command does keeps law L9. -/
theorem Deed.storesSound {i : Instr} (hs : StoresSound s) (h : Deed s i t) : StoresSound t := by
  have hlost : ∀ x : State, StoresSound x → StoresSound x.loseLock := fun x hx =>
    storesSound_same hx (by simp [State.loseLock]) (by simp [State.loseLock])
      (by simp [State.loseLock]) (by simp [State.loseLock])
  cases h with
  | powerOn straps =>
    obtain ⟨l, w, heq⟩ := State.powerOn_cases straps
    rw [heq]
    exact storesSound_of_initial rfl rfl rfl rfl
  | asserted => exact storesSound_of_initial rfl rfl rfl rfl
  | cues _ _ hchain => exact hchain.induction Touch.storesSound hs
  | fieldSync p =>
    rcases s.fieldSync_cases p with ⟨r, v, -, -, heq⟩ | ⟨r, v, -, -, -, heq⟩ | ⟨-, heq⟩ <;> rw [heq]
    · exact storesSound_fieldBoundary (s := { s with raster := r, video := v }) hs
    · exact hs
    · exact hlost s hs
  | expiry =>
    rcases s.missingSync_cases with ⟨r, -, heq⟩ | ⟨-, heq⟩ <;> rw [heq]
    · exact hs
    · exact hlost s.expired hs
  | pixelClock => exact storesSound_same hs (by simp) (by simp) (by simp) (by simp)
  | lineSync | held | windowEnd => exact hs

/-! ## The profile -/

/-- The profile's ranges are those of the profile alone. -/
theorem profileSound_congr (hs : ProfileSound s) (hprofile : t.profile = s.profile) :
    ProfileSound t := by
  unfold ProfileSound
  rw [hprofile]
  exact hs

/-- What an owner does keeps the profile's ranges (R145, R194). -/
theorem Owned.profileSound (hs : ProfileSound s) {named : Option Byte} (h : Owned s named t) :
    ProfileSound t := by
  cases h with
  | profile hkept => exact hkept hs
  | @undone e =>
    refine profileSound_congr hs ?_
    rw [State.undoEntry_work]
  | cancelled =>
    refine profileSound_congr hs ?_
    rw [State.lineWork_replyCancelled]
  | marked | set | purged | primary => exact profileSound_congr hs (by simp)
  | cleared => exact profileSound_congr hs (by simp [State.clearRecord])
  | vectors => exact profileSound_congr hs (by simp [State.editVectors])
  | same | allocated | dropped | loadStarted | loaded | installed | enables | latches => exact hs

/-- What a cue does keeps the profile's ranges. -/
theorem Touch.profileSound (hs : ProfileSound s) (h : Touch s t) : ProfileSound t := by
  cases h with
  | line hwork =>
    rw [hwork]
    exact hs
  | peerCut a reel frame =>
    rcases s.takePeerCut_cases a reel frame with heq | ⟨_, _, _, heq⟩ <;> rw [heq]
    · exact hs
    · exact profileSound_congr hs (by simp)
  | owner c => exact (ownerOf_owned c).profileSound hs
  | reel | rethread | frame | hold | role | lineReset => exact hs

/-- The profile after a reset is in its ranges (R145, R194). -/
theorem profileSound_of_initial
    (h : t.profile = ⟨.positive, .positive, Matrix.identity, 300, 12⟩) : ProfileSound t := by
  unfold ProfileSound
  rw [h]
  decide

/-- What one command does keeps the profile's ranges. -/
theorem Deed.profileSound {i : Instr} (hs : ProfileSound s) (h : Deed s i t) : ProfileSound t := by
  cases h with
  | powerOn straps =>
    obtain ⟨l, w, heq⟩ := State.powerOn_cases straps
    rw [heq]
    exact profileSound_of_initial rfl
  | asserted => exact profileSound_of_initial rfl
  | cues _ _ hchain => exact hchain.induction Touch.profileSound hs
  | fieldSync p =>
    rcases s.fieldSync_cases p with ⟨r, v, -, -, heq⟩ | ⟨r, v, -, -, -, heq⟩ | ⟨-, heq⟩ <;> rw [heq]
    · obtain ⟨-, -, -, -, hprofile⟩ :=
        State.fieldBoundary_frame (u := { s with raster := r, video := v })
      unfold ProfileSound
      rw [hprofile]
      exact hs
    · exact hs
    · exact profileSound_congr hs (by simp [State.syncMarked, State.loseLock])
  | expiry =>
    rcases s.missingSync_cases with ⟨r, -, heq⟩ | ⟨-, heq⟩ <;> rw [heq]
    · exact hs
    · exact profileSound_congr hs (by simp [State.expired, State.loseLock])
  | pixelClock => exact profileSound_congr hs (by simp)
  | lineSync | held | windowEnd => exact hs

end

end Sys2Proof.Machine

/-! The picture that leaves the engine, and the lock monitor (law L8, R20, R22, R23, R155). -/

namespace Sys2Proof.Machine

open Safety

section
variable {s t u : State} {q : RGB Int}

/-! ## Codes -/

/-- A value in 12 bits is coded within 64..940 (R22). -/
theorem outputCode_mem {v : Int} (h0 : 0 ≤ v) (h1 : v ≤ 4095) :
    64 ≤ outputCode v ∧ outputCode v ≤ 940 := by
  unfold outputCode
  omega

/-- The three channels are values in 12 bits. -/
abbrev InRange (q : RGB Int) : Prop := ∀ c ∈ q.toList, 0 ≤ c ∧ c ≤ 4095

/-- What ends in a clamp in every channel lies in 12 bits (R2). -/
theorem inRange_clamped (r g b : Int) : InRange ⟨clamp12 r, clamp12 g, clamp12 b⟩ :=
  RGB.forall_mem_toList.mpr ⟨clamp12_mem r, clamp12_mem g, clamp12_mem b⟩

/-- The secondary stage keeps 12 bits (R18). -/
theorem inRange_secondaryStage (vs : List Vec) (x y : Nat) (h : InRange q) :
    InRange (secondaryStage vs x y q) := by
  unfold secondaryStage
  split
  next => exact inRange_clamped _ _ _
  next => exact h

/-- A lane's values lie in 12 bits, whatever its curves hold (R13, R14, R18). -/
theorem inRange_lane (curves : List (List Nat)) (g : Grade) (x y : Nat) (m : RGB Int) :
    InRange (lane curves g x y m) :=
  inRange_secondaryStage _ _ _ (inRange_clamped _ _ _)

/-- Up to weight 256 a blend of values in 12 bits lies in 12 bits (R20). -/
theorem blend_mem {w : Nat} (hw : w ≤ 256) {old new : Int} (hold : 0 ≤ old ∧ old ≤ 4095)
    (hnew : 0 ≤ new ∧ new ≤ 4095) : 0 ≤ blend w old new ∧ blend w old new ≤ 4095 := by
  have hlow := min_le_blend hw old new
  have hhigh := blend_le_max hw old new
  omega

/-- The graded values lie in 12 bits (R19, R20). -/
theorem inRange_graded {sn : Snapshot} (hw : sn.weight ≤ 256) (x y : Nat) (m : RGB Int) :
    InRange (graded sn x y m) := by
  have hold := inRange_lane sn.curves sn.current x y m
  unfold graded
  dsimp only
  split
  next => exact hold
  next g _ =>
    obtain ⟨hr, hg, hb⟩ := RGB.forall_mem_toList.mp hold
    obtain ⟨hr', hg', hb'⟩ := RGB.forall_mem_toList.mp (inRange_lane sn.curves g x y m)
    exact RGB.forall_mem_toList.mpr
      ⟨blend_mem hw hr hr', blend_mem hw hg hg', blend_mem hw hb hb'⟩

/-- Black is coded as 64 (R23). -/
theorem outOk_black (a b c : Bool) : OutOk ⟨RGB.all 64, a, b, c⟩ :=
  RGB.forall_mem_toList.mpr (by simp [RGB.all])

/-- The codes of the pixel now sampled lie in 64..940 (R22, R23, R25). -/
theorem State.outOk_codeNow (hw : s.snapshot.weight ≤ 256) (p : RGB Int) (a b c : Bool) :
    OutOk ⟨s.codeNow p, a, b, c⟩ := by
  unfold State.codeNow
  split
  next x l _ =>
    split
    next => exact outOk_black a b c
    next =>
      obtain ⟨hr, hg, hb⟩ := RGB.forall_mem_toList.mp
        (inRange_graded hw x (frameLine l s.video.parity) (s.pixelMask x l p))
      exact RGB.forall_mem_toList.mpr
        ⟨outputCode_mem hr.1 hr.2, outputCode_mem hg.1 hg.2, outputCode_mem hb.1 hb.2⟩
  next => exact outOk_black a b c

/-! ## The video -/

/-- The delay holds 96 pixels, which like the output are coded within 64..940 (R22, R154). -/
abbrev Video.Sound (v : Video) : Prop :=
  v.delay.length = 96 ∧ (∀ q ∈ v.delay, OutOk q) ∧ OutOk v.out

/-- Law L8 is the video's soundness, and a weight of at most 256 (R20, R22). -/
theorem videoSound_iff : VideoSound s ↔ s.video.Sound ∧ s.snapshot.weight ≤ 256 := by
  constructor
  · rintro ⟨hlength, hdelay, hout, hweight⟩
    exact ⟨⟨hlength, hdelay, hout⟩, hweight⟩
  · rintro ⟨⟨hlength, hdelay, hout⟩, hweight⟩
    exact ⟨hlength, hdelay, hout, hweight⟩

/-- A pixel in range that joins the delay keeps the video's soundness (R154). -/
theorem Video.Sound.present {v : Video} {x : OutPixel} (h : v.Sound) (hx : OutOk x) :
    (v.present x).Sound := by
  obtain ⟨hlength, hdelay, -⟩ := h
  have hjoined : ∀ y ∈ v.delay ++ [x], OutOk y := by
    intro y hy
    rcases List.mem_append.mp hy with hy | hy
    · exact hdelay y hy
    · exact List.mem_singleton.mp hy ▸ hx
  refine ⟨?_, fun y hy => hjoined y (List.mem_of_mem_tail hy), ?_⟩
  · simp [Video.present, hlength]
  · have hmem : (v.delay ++ [x]).headD OutPixel.blank ∈ v.delay ++ [x] := by
      cases hd : v.delay ++ [x] with
      | nil => simp at hd
      | cons y ys => exact List.mem_cons_self
    exact hjoined _ hmem

/-- The delay and the output of a reset are black (R154, R186). -/
theorem Video.sound_of_blank {v : Video} (hdelay : v.delay = List.replicate 96 OutPixel.blank)
    (hout : v.out = OutPixel.blank) : v.Sound := by
  refine ⟨hdelay ▸ List.length_replicate, fun x hx => ?_, hout ▸ outOk_black _ _ _⟩
  rw [hdelay] at hx
  exact List.eq_of_mem_replicate hx ▸ outOk_black _ _ _

/-- The weight that a sound controller blends with is at most 256 (R130). -/
theorem Controller.weight_le {c : Controller} (h : c.Sound) : c.weight ≤ 256 := by
  unfold Controller.weight
  split
  next hrunning =>
    obtain ⟨-, hcount, -⟩ := h.2 (Option.isSome_iff_ne_none.mp hrunning)
    refine Nat.div_le_of_le_mul ?_
    rw [Nat.mul_comm (c.length + 1)]
    exact Nat.mul_le_mul_left 256 (hcount.trans (Nat.le_succ _))
  next => exact Nat.zero_le _

/-- What one command does keeps law L8: only a pixel clock moves the output, and the weight is the controller's. -/
theorem Deed.videoSound {i : Instr} (hs : VideoSound s) (hcontroller : ControllerSound t)
    (h : Deed s i t) : VideoSound t := by
  obtain ⟨hvideo, hweight⟩ := videoSound_iff.mp hs
  refine videoSound_iff.mpr ⟨?_, ?_⟩
  · cases h with
    | powerOn straps =>
      obtain ⟨l, w, heq⟩ := State.powerOn_cases straps
      rw [heq]
      exact Video.sound_of_blank rfl rfl
    | asserted => exact Video.sound_of_blank rfl rfl
    | cues _ _ hchain =>
      obtain ⟨-, -, hkept, -⟩ := Chain.framed hchain
      exact hkept ▸ hvideo
    | fieldSync p =>
      rw [(State.fieldSync_raster p).2]
      exact hvideo
    | expiry =>
      have hkept : s.missingSync.video = s.video := by
        rcases s.missingSync_cases with ⟨r, -, heq⟩ | ⟨-, heq⟩ <;> rw [heq]
        · rfl
        · simp [State.loseLock, State.expired]
      exact hkept ▸ hvideo
    | pixelClock r g b l f p =>
      exact Video.Sound.present (v := { s.video with clocksIntoLine := s.video.clocksIntoLine + 1 })
        hvideo (State.outOk_codeNow (s := { s with
          video := { s.video with clocksIntoLine := s.video.clocksIntoLine + 1 } }) hweight _ _ _ _)
    | lineSync | held | windowEnd => exact hvideo
  · rcases h.snapshot_cases with ⟨straps, heq⟩ | heq | heq <;> rw [heq]
    · exact Nat.zero_le _
    · exact Controller.weight_le (controllerSound_iff.mp hcontroller).1
    · exact hweight

/-! ## The lock monitor -/

/-- What is sound of the lock monitor: the runs' ranges, and the run that does not apply is 0 (Table 9-1, R155). -/
abbrev Raster.Sound (r : Raster) : Prop :=
  r.goodRun ≤ 3 ∧ r.badRun ≤ 1 ∧ (r.locked = true → r.goodRun = 0) ∧
  (r.locked = false → r.badRun = 0)

/-- Black is forced where the window runs or lock is not held: in ROLLCALL and UNSYNC (R23, R117). -/
abbrev State.Dark (s : State) : Prop :=
  s.rollCall ≠ none ∨ s.raster.locked = false → s.forcedBlack = true

/-- Table 9-1 is the lock monitor's soundness, and black in the states not followed (R23, R155). -/
theorem rasterSound_iff : RasterSound s ↔ s.raster.Sound ∧ s.Dark := by
  have hstate : s.engineState = .rollcall ∨ s.engineState = .unsync ↔
      s.rollCall ≠ none ∨ s.raster.locked = false := by
    obtain ⟨hrollcall, hunsync, -⟩ := engineStateTable.2 s
    rw [hrollcall, hunsync]
    tauto
  unfold RasterSound
  rw [hstate]
  constructor
  · rintro ⟨hgood, hbad, hlocked, hunlocked, hdark⟩
    exact ⟨⟨hgood, hbad, hlocked, hunlocked⟩, hdark⟩
  · rintro ⟨⟨hgood, hbad, hlocked, hunlocked⟩, hdark⟩
    exact ⟨hgood, hbad, hlocked, hunlocked, hdark⟩

/-- A lock monitor just unlocked is sound (R161). -/
theorem Raster.sound_unlocked {r : Raster} (hgood : r.goodRun = 0) (hbad : r.badRun = 0) :
    r.Sound := by
  unfold Raster.Sound
  omega

/-- A bad field keeps the runs' ranges (R158, R159). -/
theorem State.badField_sound (h : s.raster.Sound) : s.badField.raster.Sound := by
  obtain ⟨hgood, hbad, hlocked, hunlocked⟩ := h
  unfold State.badField
  split
  next hheld =>
    split
    next => exact ⟨hgood, Nat.le_refl 1, hlocked, fun hfree => absurd (hheld.symm.trans hfree) nofun⟩
    next =>
      rw [State.loseLock_raster]
      exact Raster.sound_unlocked rfl rfl
  next => exact ⟨Nat.zero_le _, hbad, fun _ => rfl, hunlocked⟩

/-- A good field keeps the runs' ranges (R158, R159). -/
theorem State.goodField_sound (h : s.raster.Sound) : s.goodField.raster.Sound := by
  obtain ⟨hgood, hbad, hlocked, hunlocked⟩ := h
  unfold State.goodField
  split
  next => exact ⟨hgood, Nat.zero_le _, hlocked, fun _ => rfl⟩
  next hfree =>
    split
    next => exact Raster.sound_unlocked rfl rfl
    next hrun =>
      refine ⟨?_, hbad, fun hheld => absurd hheld hfree, hunlocked⟩
      dsimp only
      omega

/-- A judgement keeps the runs' ranges (R156). -/
theorem State.judgeField_sound (h : s.raster.Sound) : s.judgeField.raster.Sound := by
  unfold State.judgeField
  split
  next =>
    split
    next => exact State.goodField_sound h
    next => exact State.badField_sound h
  next => exact h

/-- Forced black depends on window, lock and the mark alone. -/
theorem State.Dark.congr (h : s.Dark) (hwindow : t.rollCall = none ↔ s.rollCall = none)
    (hlocked : t.raster.locked = s.raster.locked) (hblack : t.forcedBlack = s.forcedBlack) :
    t.Dark := by
  unfold State.Dark
  rw [ne_eq, hwindow, hlocked, hblack]
  exact h

/-- A line reset blackens the picture, and no other cue opens the window, touches the lock or ends black (R188). -/
theorem Touch.dark (hs : s.Dark) (h : Touch s t) : t.Dark := by
  cases h with
  | line hwork =>
    rw [hwork]
    exact hs
  | peerCut a reel frame =>
    rcases s.takePeerCut_cases a reel frame with heq | ⟨_, _, _, heq⟩ <;> rw [heq]
    · exact hs
    · exact hs.congr (by simp) (by simp) (by simp)
  | owner c =>
    obtain ⟨-, -, -, hraster, -, hblack, -, -, -, -, -, -, hwindow, -⟩ := (ownerOf_owned c).frame
    exact hs.congr (by rw [hwindow]) (by rw [hraster]) hblack
  | lineReset => exact fun _ => rfl
  | reel | rethread | frame | hold | role => exact hs

/-- What one command does keeps Table 9-1: a sync that ends without lock is no boundary, so that black stays. -/
theorem Deed.rasterSound {i : Instr} (hs : RasterSound s) (h : Deed s i t) : RasterSound t := by
  obtain ⟨hraster, hdark⟩ := rasterSound_iff.mp hs
  cases h with
  | powerOn straps =>
    obtain ⟨l, w, heq⟩ := State.powerOn_cases straps
    rw [heq]
    exact rasterSound_iff.mpr ⟨Raster.sound_unlocked rfl rfl, fun _ => rfl⟩
  | asserted => exact rasterSound_iff.mpr ⟨Raster.sound_unlocked rfl rfl, fun _ => rfl⟩
  | cues _ _ hchain =>
    obtain ⟨-, -, -, hkept, -⟩ := Chain.framed hchain
    exact rasterSound_iff.mpr ⟨hkept ▸ hraster, hchain.induction Touch.dark hdark⟩
  | fieldSync p =>
    refine rasterSound_iff.mpr ⟨?_, ?_⟩
    · rw [(State.fieldSync_raster p).1]
      exact State.judgeField_sound hraster
    · rcases s.fieldSync_cases p with ⟨r, v, hlock, -, heq⟩ | ⟨r, v, hlock, -, -, heq⟩ | ⟨-, heq⟩ <;>
        rw [heq]
      · have hblack := State.fieldBoundary_black (u := { s with raster := r, video := v }) hlock
        obtain ⟨-, -, hwindow, -⟩ :=
          State.fieldBoundary_frame (u := { s with raster := r, video := v })
        obtain ⟨hkept, -⟩ := State.fieldBoundary_fields (s := { s with raster := r, video := v })
        rintro (hopen | hfree)
        · rw [hwindow] at hopen
          exact hblack.trans (Option.isSome_iff_ne_none.mpr hopen)
        · rw [hkept] at hfree
          exact absurd (hlock.symm.trans hfree) nofun
      · exact fun _ => hdark (.inr hlock)
      · exact fun _ => State.loseLock_effects.2.1
  | expiry =>
    refine rasterSound_iff.mpr ⟨State.badField_sound (s := s.expired) hraster, ?_⟩
    rcases s.missingSync_cases with ⟨r, hlock, heq⟩ | ⟨-, heq⟩ <;> rw [heq]
    · exact hdark.congr .rfl hlock rfl
    · exact fun _ => State.loseLock_effects.2.1
  | pixelClock r g b l f p =>
    exact rasterSound_iff.mpr ⟨hraster, hdark.congr (State.pixelClock_window ..) rfl rfl⟩
  | windowEnd =>
    exact rasterSound_iff.mpr ⟨hraster, fun h => hdark (.inr (h.resolve_left fun h => h rfl))⟩
  | lineSync => exact rasterSound_iff.mpr ⟨hraster, hdark⟩
  | held => exact hs

end

/-- Settles O11: each block's laws by the commands that move it; the blend weight is that of a controller which the sound table keeps sound. -/
theorem stepKeepsPicture : Obligations.StepKeepsPicture := by
  unfold Obligations.StepKeepsPicture
  intro s t hstores hprofile hvideo hraster hcontroller hscenes hstep
  have hok := tableOk_of_scenesSound hscenes
  have hlooked : s.LookedUp := ⟨tableOk_head hok, hok.2.2.2.1⟩
  rcases step_cases hstep with rfl | ⟨c, rest, heffect⟩
  · exact ⟨hstores, hprofile, hvideo, hraster⟩
  · have hdeed := heffect.deed
    have hconducted := hdeed.controllerSound (s := { s with pending := rest }) hcontroller hlooked
    exact ⟨hdeed.storesSound (s := { s with pending := rest }) hstores,
      hdeed.profileSound (s := { s with pending := rest }) hprofile,
      hdeed.videoSound (s := { s with pending := rest }) hvideo hconducted,
      hdeed.rasterSound (s := { s with pending := rest }) hraster⟩

end Sys2Proof.Machine

/-! Every law right after a power-on reset (R186). -/

namespace Sys2Proof.Machine

open Safety

/-- A power-on reset meets every law, whatever the straps (R186). -/
theorem laws_powerOn (straps : Straps) (n : Nat) (waiting : List Instr) :
    Laws { State.powerOn straps with freeCount := n, pending := waiting } := by
  have hline : LineSound { State.powerOn straps with freeCount := n, pending := waiting } :=
    lineSound_powerOn straps rfl
  obtain ⟨l, w, heq⟩ := State.powerOn_cases straps
  rw [heq] at hline ⊢
  obtain ⟨hscenes, -, hbounded⟩ := scenesKept_of_initial (k := 16) (t := { State.cold straps with
    line := l, latches := w, rollCall := some Config.rollCallClocks
    freeCount := n, pending := waiting }) rfl rfl rfl (Nat.le_refl 16)
  exact ⟨hbounded, hscenes, poolSound_of_initial rfl rfl rfl rfl rfl,
    ⟨Pool.gradesOk_initial, nofun, gradeOk_flat, nofun, gradeOk_flat, nofun⟩,
    followerSound_of_empty rfl (Nat.zero_lt_succ _) rfl rfl, controllerSound_of_idle rfl rfl rfl,
    detectorSound_of_initial rfl, storesSound_of_initial rfl rfl rfl rfl,
    profileSound_of_initial rfl, videoSound_iff.mpr ⟨Video.sound_of_blank rfl rfl, Nat.zero_le _⟩,
    rasterSound_iff.mpr ⟨Raster.sound_unlocked rfl rfl, fun _ => rfl⟩, hline,
    rosterSound_ownRoster rfl⟩

/-- Settles O5: each block's laws hold of its power-on values. -/
theorem powerOnMeetsLaws : Obligations.PowerOnMeetsLaws := by
  unfold Obligations.PowerOnMeetsLaws
  refine ⟨fun straps s t hexec => ?_, laws_powerOn Config.strapsAtReset _ _⟩
  have heq : exec (.powerOnReset straps) s =
      .next { State.powerOn straps with freeCount := s.freeCount, pending := s.pending } := rfl
  obtain rfl := Host.Outcome.next.inj (heq.symm.trans hexec)
  exact laws_powerOn straps _ _

end Sys2Proof.Machine

/-! No command reads or writes the queue of waiting commands (log 14): every operation gives the same from another queue, with that queue left. -/

namespace Sys2Proof.Machine

open Safety

/-- The state with another queue of waiting commands. -/
def State.withQueue (q : List Instr) (s : State) : State := { s with pending := q }

/-- The operation neither reads nor writes the queue of waiting commands. -/
def KeepsQueue (f : State → State) : Prop := ∀ q s, f (s.withQueue q) = (f s).withQueue q

/-- An owner's state and answer, with another queue of waiting commands. -/
def Answer.withQueue (q : List Instr) (a : State × Answer) : State × Answer := (a.1.withQueue q, a.2)

/-- The owner neither reads nor writes the queue of waiting commands. -/
def AnswersAlike (f : State → State × Answer) : Prop :=
  ∀ q s, f (s.withQueue q) = Answer.withQueue q (f s)

/-- Another queue changes no other part of the state. -/
theorem State.withQueue_fields (q : List Instr) (s : State) :
    (s.withQueue q).straps = s.straps ∧ (s.withQueue q).loader = s.loader ∧
    (s.withQueue q).pool = s.pool ∧ (s.withQueue q).scenes = s.scenes ∧
    (s.withQueue q).history = s.history ∧ (s.withQueue q).follower = s.follower ∧
    (s.withQueue q).controller = s.controller ∧ (s.withQueue q).line = s.line :=
  ⟨rfl, rfl, rfl, rfl, rfl, rfl, rfl, rfl⟩

section
variable {f g : State → State} {c : Cue}

/-- What keeps the queue in both branches of a test keeps it in the test. -/
theorem ite_eq_apply {α β : Type} {h : α → β} {c : Prop} [Decidable c] {a b : β} {x y : α}
    (ha : a = h x) (hb : b = h y) : (if c then a else b) = h (if c then x else y) := by
  rw [ha, hb, apply_ite h]

/-- Operations that keep the queue keep it one after the other. -/
theorem KeepsQueue.comp (hg : KeepsQueue g) (hf : KeepsQueue f) : KeepsQueue (fun s => g (f s)) :=
  fun q s => (congrArg g (hf q s)).trans (hg q (f s))

/-! ## Line, latches, history, table -/

theorem keepsQueue_overflow : KeepsQueue State.overflow := fun _ _ =>
  ite_eq_apply rfl (ite_eq_apply rfl rfl)

theorem keepsQueue_offer (c : TxCue) : KeepsQueue (State.offer c) := fun q s =>
  ite_eq_apply rfl (ite_eq_apply
    (keepsQueue_overflow q { s with line := s.line.offered s.straps.station c }) rfl)

theorem keepsQueue_raise (l : Latch) : KeepsQueue (State.raise l) := fun q s =>
  ite_eq_apply rfl (ite_eq_apply (keepsQueue_offer _ q (s.latch l)) rfl)

theorem keepsQueue_discardOldest : KeepsQueue State.discardOldest := by
  intro q s
  unfold State.discardOldest
  simp only [State.withQueue_fields]
  split
  next => exact ite_eq_apply rfl rfl
  next => rfl

theorem keepsQueue_push (e : Entry) : KeepsQueue (State.push e) :=
  KeepsQueue.comp (g := State.append e) (fun _ _ => rfl) keepsQueue_discardOldest

theorem keepsQueue_insertRecord (r : Scene) : KeepsQueue (State.insertRecord r) := by
  intro q s
  unfold State.insertRecord
  rw [keepsQueue_push]
  rfl

theorem keepsQueue_propose (n : Nat) (o : Origin) : KeepsQueue (State.propose n o) := fun q s =>
  ite_eq_apply rfl (ite_eq_apply (keepsQueue_raise _ q s) (keepsQueue_insertRecord _ q s))

theorem keepsQueue_completeDissolve : KeepsQueue State.completeDissolve := by
  intro q s
  unfold State.completeDissolve
  simp only [State.withQueue_fields]
  split <;> rfl

/-! ## The service of a cue -/

theorem keepsQueue_reply (c : Cue) (a : Answer) : KeepsQueue (State.reply c a) := by
  intro q s
  cases a with
  | none => rfl
  | some x => exact ite_eq_apply rfl (keepsQueue_offer _ q s)

theorem keepsQueue_handle {owner : State → State × Answer} (h : AnswersAlike owner) (c : Cue) :
    KeepsQueue (handle c owner) := by
  intro q s
  refine ite_eq_apply (keepsQueue_reply c _ q s) (ite_eq_apply (keepsQueue_reply c _ q s) ?_)
  rw [h q s]
  exact keepsQueue_reply c _ q _

theorem keepsQueue_takeLineReset (a : Station) : KeepsQueue (fun s => s.takeLineReset a) :=
  fun q s => ite_eq_apply rfl (keepsQueue_offer _ q s.lineCleared)

theorem keepsQueue_takeWaiting : KeepsQueue State.takeWaiting := by
  have hall : ∀ as : List Station, KeepsQueue (fun s => as.foldl (fun s a => s.takeLineReset a) s) := by
    intro as
    induction as with
    | nil => exact fun _ _ => rfl
    | cons a as ih => exact ih.comp (keepsQueue_takeLineReset a)
  exact fun q s => hall s.line.lineResets q { s with line := { s.line with lineResets := [] } }

theorem keepsQueue_serve (h : KeepsQueue f) (c : Cue) : KeepsQueue (serve c f) := by
  intro q s
  unfold serve
  simp only [State.withQueue_fields]
  split
  next => exact ite_eq_apply (h q s) rfl
  next rest _ =>
    exact ite_eq_apply
      (keepsQueue_takeWaiting.comp h q { s with line := { s.line with fifo := rest } }) rfl

theorem keepsQueue_takePeerCut (a : Station) (reel n : Nat) :
    KeepsQueue (State.takePeerCut a reel n) := by
  intro q s
  unfold State.takePeerCut
  simp only [State.withQueue_fields]
  split
  next => exact ite_eq_apply (keepsQueue_propose _ _ q s) rfl
  next => rfl

/-! ## The owners -/

theorem answersAlike_sceneMark (n : Nat) (grade trans len : Byte) :
    AnswersAlike (sceneMark n grade trans len) := by
  intro q s
  have hreel : (s.withQueue q).reelTest n = s.reelTest n := rfl
  have hgrade : ∀ m g, (s.withQueue q).gradeNamed m g = s.gradeNamed m g := fun _ _ => rfl
  unfold sceneMark
  simp only [hreel, hgrade, State.withQueue_fields]
  split
  next => rfl
  next => rfl
  next =>
    refine ite_eq_apply rfl ?_
    split
    next =>
      refine ite_eq_apply rfl ?_
      rw [keepsQueue_insertRecord]
      rfl
    next => rfl

theorem answersAlike_sceneClear (n : Nat) : AnswersAlike (sceneClear n) := by
  intro q s
  have hreel : (s.withQueue q).reelTest n = s.reelTest n := rfl
  unfold sceneClear
  simp only [hreel, State.withQueue_fields]
  split
  next => rfl
  next => rfl
  next =>
    refine ite_eq_apply rfl ?_
    split
    next => rfl
    next =>
      rw [keepsQueue_push]
      rfl

theorem answersAlike_sceneSet (n : Nat) (grade trans len confirm : Byte) :
    AnswersAlike (sceneSet n grade trans len confirm) := by
  intro q s
  have hreel : (s.withQueue q).reelTest n = s.reelTest n := rfl
  have hgrade : ∀ m g, (s.withQueue q).gradeNamed m g = s.gradeNamed m g := fun _ _ => rfl
  unfold sceneSet
  simp only [hreel, hgrade, State.withQueue_fields]
  split
  next => rfl
  next => rfl
  next =>
    split
    next => rfl
    next =>
      split
      next =>
        refine ite_eq_apply rfl ?_
        rw [keepsQueue_push]
        rfl
      next => rfl

theorem answersAlike_scenePurge : AnswersAlike scenePurge := by
  intro q s
  unfold scenePurge
  simp only [State.withQueue_fields]
  split <;> rfl

theorem answersAlike_sceneQuery (mode : Byte) (n : Nat) : AnswersAlike (sceneQuery mode n) := by
  intro q s
  unfold sceneQuery
  simp only [State.withQueue_fields]
  refine ite_eq_apply (ite_eq_apply rfl rfl) (ite_eq_apply ?_ rfl)
  split <;> rfl

theorem answersAlike_gradeNew : AnswersAlike gradeNew := fun _ _ => ite_eq_apply rfl rfl

/-- An edit of a slot is alike when its edits of the record are (Table 3-4). -/
theorem answersAlike_withEditable {edit : State → Slot → State × Answer} (n : Nat)
    (h : ∀ r, AnswersAlike (fun s => edit s r)) :
    AnswersAlike (fun s => withEditable n (edit s) s) := by
  intro q s
  unfold withEditable
  simp only [State.withQueue_fields]
  refine ite_eq_apply rfl (ite_eq_apply rfl ?_)
  split
  next => rfl
  next r _ => exact h r q s

/-- A pushed entry and a written grade, with an answer of its own (R57). -/
theorem answersAlike_edited (e : Entry) (n : Nat) (grade : Grade) (a : Answer) :
    AnswersAlike (fun s => ((s.push e).writeSlot n grade, a)) := by
  intro q s
  dsimp only
  rw [keepsQueue_push]
  rfl

theorem answersAlike_gradePrimary (n : Nat) (p : RGB WirePrimary) :
    AnswersAlike (gradePrimary n p) :=
  answersAlike_withEditable n fun _ q s => ite_eq_apply (answersAlike_edited _ _ _ _ q s) rfl

theorem answersAlike_gradeVector (n p : Nat) (v : WireVector) :
    AnswersAlike (gradeVector n p v) :=
  answersAlike_withEditable n fun _ q s => ite_eq_apply rfl
    (ite_eq_apply rfl (answersAlike_edited _ _ _ _ q s))

theorem answersAlike_gradeVectorDelete (n p : Nat) : AnswersAlike (gradeVectorDelete n p) :=
  answersAlike_withEditable n fun _ q s => ite_eq_apply rfl (answersAlike_edited _ _ _ _ q s)

theorem answersAlike_gradeDrop (n : Nat) : AnswersAlike (gradeDrop n) :=
  answersAlike_withEditable n fun _ _ _ => ite_eq_apply rfl rfl

theorem answersAlike_gradeQuery (n : Nat) (part : Byte) (p : Nat) :
    AnswersAlike (gradeQuery n part p) := by
  intro q s
  unfold gradeQuery
  simp only [State.withQueue_fields]
  split
  next => rfl
  next =>
    refine ite_eq_apply rfl (ite_eq_apply ?_ rfl)
    split <;> rfl

theorem answersAlike_loadStart (kind curve : Byte) (n : Nat) (mode : Byte) :
    AnswersAlike (loadStart kind curve n mode) := by
  intro q s
  unfold loadStart
  refine ite_eq_apply rfl ?_
  split
  next => exact ite_eq_apply rfl rfl
  next => rfl

theorem answersAlike_loadData (vs : List Nat) : AnswersAlike (loadData vs) := by
  intro q s
  unfold loadData
  simp only [State.withQueue_fields]
  split <;> rfl

theorem answersAlike_loadInstall (src dst : Station) : AnswersAlike (loadInstall src dst) := by
  intro q s
  unfold loadInstall
  simp only [State.withQueue_fields]
  split <;> rfl

theorem answersAlike_loadCancel : AnswersAlike loadCancel := by
  have hreply : KeepsQueue State.replyCancelled := by
    intro q s
    unfold State.replyCancelled
    simp only [State.withQueue_fields]
    split
    next => exact keepsQueue_offer _ q s
    next => rfl
  intro q s
  unfold loadCancel
  rw [hreply]
  rfl

theorem answersAlike_portRead (p : Byte) : AnswersAlike (portRead p) := by
  intro q s
  have hcontents : (s.withQueue q).portContents p.toNat = s.portContents p.toNat := rfl
  unfold portRead
  rw [hcontents]
  split <;> rfl

theorem answersAlike_portWrite (p : Byte) (d : List Byte) : AnswersAlike (portWrite p d) := by
  intro q s
  unfold portWrite
  split
  next => rfl
  next =>
    unfold writeFilmMode
    split <;> rfl
  next => rfl
  next => rfl
  next => rfl
  next => rfl
  next => rfl
  next => exact ite_eq_apply rfl (ite_eq_apply rfl rfl)

theorem keepsQueue_revert (e : Entry) : KeepsQueue (State.revert e) := by
  intro q s
  unfold State.revert
  simp only [State.withQueue_fields]
  split
  next => split <;> rfl
  next => rfl
  next => split <;> rfl
  next => rfl
  next => rfl

theorem answersAlike_undo : AnswersAlike undo := by
  have hundo : ∀ e, KeepsQueue (State.undoEntry e) := by
    intro e q s
    rw [State.undoEntry_eq, State.undoEntry_eq, keepsQueue_revert]
    rfl
  intro q s
  unfold undo
  simp only [State.withQueue_fields]
  refine ite_eq_apply rfl ?_
  split
  next => rfl
  next =>
    rw [hundo]
    rfl

theorem answersAlike_ownerOf (c : Cue) : AnswersAlike (ownerOf c) := by
  unfold ownerOf
  cases c.body with
  | sceneMark => exact answersAlike_sceneMark _ _ _ _
  | sceneClear => exact answersAlike_sceneClear _
  | sceneSet => exact answersAlike_sceneSet _ _ _ _ _
  | scenePurge => exact answersAlike_scenePurge
  | sceneQuery => exact answersAlike_sceneQuery _ _
  | gradeNew => exact answersAlike_gradeNew
  | gradePrimary => exact answersAlike_gradePrimary _ _
  | gradeVector => exact answersAlike_gradeVector _ _ _
  | gradeVectorDelete => exact answersAlike_gradeVectorDelete _ _
  | gradeDrop => exact answersAlike_gradeDrop _
  | gradeQuery => exact answersAlike_gradeQuery _ _ _
  | loadStart => exact answersAlike_loadStart _ _ _ _
  | loadData => exact answersAlike_loadData _
  | loadInstall => exact answersAlike_loadInstall _ _
  | loadCancel => exact answersAlike_loadCancel
  | portRead => exact answersAlike_portRead _
  | portWrite => exact answersAlike_portWrite _ _
  | undo => exact answersAlike_undo
  | clearFaults => exact fun _ _ => rfl
  | cut => exact fun _ _ => rfl

/-- A service keeps the queue of waiting commands. -/
theorem keepsQueue_serviceWork (c : Cue) : KeepsQueue (serviceWork c) := by
  unfold serviceWork
  split
  next => exact keepsQueue_takePeerCut _ _ _
  next => exact keepsQueue_handle (answersAlike_ownerOf c) c

/-! ## Cues taken at arrival -/

theorem keepsQueue_takeReel (src : Station) (id len : Nat) : KeepsQueue (State.takeReel src id len) :=
  fun q s => ite_eq_apply rfl
    (ite_eq_apply (keepsQueue_raise _ q s) (ite_eq_apply rfl rfl))

theorem keepsQueue_takeFrame (src : Station) (n : Nat) (d : Direction) (v : Speed) (l k : Nat) :
    KeepsQueue (State.takeFrame src n d v l k) := by
  intro q s
  refine ite_eq_apply rfl (ite_eq_apply rfl ?_)
  simp only [State.withQueue_fields]
  split
  next => exact keepsQueue_raise _ q s
  next => exact ite_eq_apply (keepsQueue_raise _ q s) rfl

theorem keepsQueue_takePresent (src : Station) (r ask : Byte) :
    KeepsQueue (State.takePresent src r ask) := by
  have hanswer : KeepsQueue State.answerAsk := fun q s => ite_eq_apply rfl (keepsQueue_offer _ q s)
  exact fun q s => ite_eq_apply rfl (ite_eq_apply rfl
    (hanswer q { s with roster := s.roster.set src.toNat (some (Role.ofCode r)) }))

theorem keepsQueue_takeArrival (src dst : Station) (a : Arrival) :
    KeepsQueue (State.takeArrival src dst a) := by
  cases a with
  | reel => exact keepsQueue_takeReel _ _ _
  | frame => exact keepsQueue_takeFrame _ _ _ _ _ _
  | present => exact keepsQueue_takePresent _ _ _
  | lineReset => exact fun q s => ite_eq_apply (keepsQueue_takeLineReset src q s) rfl
  | hold => exact fun _ _ => ite_eq_apply rfl rfl
  | release => exact fun _ _ => ite_eq_apply rfl rfl
  | queued => exact fun q s => ite_eq_apply (keepsQueue_raise _ q s) rfl

/-! ## Guard and transmitter -/

theorem keepsQueue_muted : KeepsQueue State.muted := fun _ _ => rfl

theorem keepsQueue_duplicateFound : KeepsQueue State.duplicateFound := fun q s =>
  ite_eq_apply
    (ite_eq_apply
      (keepsQueue_muted.comp (keepsQueue_raise .address) q { s with freeCount := s.freeCount + 1 })
      ((keepsQueue_raise .address).comp keepsQueue_muted q { s with freeCount := s.freeCount + 1 }))
    ((keepsQueue_raise .address).comp keepsQueue_muted q s)

theorem keepsQueue_receive (x : Frame) : KeepsQueue (State.receive x) := by
  intro q s
  unfold State.receive
  split
  next => exact keepsQueue_raise _ q s
  next p _ =>
    refine ite_eq_apply (keepsQueue_raise _ q s) (ite_eq_apply (keepsQueue_duplicateFound q s)
      (ite_eq_apply rfl (ite_eq_apply rfl ?_)))
    split
    next a _ => exact keepsQueue_takeArrival p.src p.dst a q s
    next => rfl

theorem keepsQueue_contendAtGuard (e : Option TxEntry) : KeepsQueue (State.contendAtGuard e) := by
  intro q s
  cases e with
  | none => rfl
  | some e => exact ite_eq_apply rfl rfl

theorem keepsQueue_guardComplete (heard : Option Frame) : KeepsQueue (State.guardComplete heard) := by
  have hheard : KeepsQueue (State.heardAtGuard heard) := by
    intro q s
    cases heard with
    | none => rfl
    | some x => exact ite_eq_apply rfl (keepsQueue_receive x q s.atGuard)
  intro q s
  by_cases hfree : s.line.inFlight = none
  · rw [State.guardComplete_of_free heard hfree,
      State.guardComplete_of_free (s := s.withQueue q) heard hfree, hheard]
    exact keepsQueue_contendAtGuard _ q _
  · rw [State.guardComplete_of_sending heard hfree,
      State.guardComplete_of_sending (s := s.withQueue q) heard hfree]

theorem keepsQueue_transmitter :
    KeepsQueue State.transmitStart ∧ KeepsQueue State.transmitComplete ∧
    KeepsQueue State.transmitAbandon := by
  refine ⟨fun q s => ?_, fun q s => ?_, fun q s => ?_⟩
  · unfold State.transmitStart
    simp only [State.withQueue_fields]
    split <;> rfl
  · unfold State.transmitComplete
    simp only [State.withQueue_fields]
    split <;> rfl
  · unfold State.transmitAbandon
    simp only [State.withQueue_fields]
    split
    next j _ =>
      exact ite_eq_apply (keepsQueue_raise _ q
        { s with line := { s.line with tx := dropTx j s.line.tx, inFlight := none } }) rfl
    next => rfl

/-! ## Syncs and boundary -/

theorem keepsQueue_followBoundary : KeepsQueue State.followBoundary := fun q s =>
  ite_eq_apply (keepsQueue_raise _ q { s with follower := s.follower.advance.settle }) rfl

theorem keepsQueue_advanceDissolve : KeepsQueue State.advanceDissolve := fun q s =>
  ite_eq_apply (ite_eq_apply rfl (keepsQueue_completeDissolve q s)) rfl

theorem keepsQueue_transition (r : Scene) :
    KeepsQueue (State.cutTo r) ∧ KeepsQueue (State.dissolveTo r) ∧ KeepsQueue State.keepScene := by
  refine ⟨fun q s => ?_, fun q s => ?_, fun q s => ?_⟩
  · unfold State.cutTo
    rw [keepsQueue_completeDissolve]
    rfl
  · unfold State.dissolveTo
    rw [keepsQueue_completeDissolve]
    rfl
  · unfold State.keepScene
    rw [keepsQueue_completeDissolve]
    rfl

theorem keepsQueue_lookUp (b : Bool) (n : CurrentFrame) : KeepsQueue (State.lookUp b n) := by
  have hreport : ∀ r k, KeepsQueue (State.reportScene r n k) := fun _ _ q s =>
    ite_eq_apply (keepsQueue_offer _ q s) rfl
  have hfired : ∀ r, KeepsQueue (State.fireTransition b n r) := by
    intro r q s
    obtain ⟨hcut, hdissolve, -⟩ := keepsQueue_transition r
    have hkind : transitionKind b n r (s.withQueue q).controller.holdExit =
        transitionKind b n r s.controller.holdExit := rfl
    unfold State.fireTransition
    rw [hkind]
    cases transitionKind b n r s.controller.holdExit with
    | cut => exact (hreport r _).comp hcut q s
    | dissolve => exact (hreport r _).comp hdissolve q s
  exact fun q s => congrArg
    (fun u : State => { u with controller := { u.controller with holdExit := false } })
    (ite_eq_apply (h := State.withQueue q) (hfired (sceneOf s.scenes n.frame) q s) rfl)

theorem keepsQueue_controllerBoundary (b : Bool) : KeepsQueue (State.controllerBoundary b) := by
  intro q s
  unfold State.controllerBoundary
  rw [keepsQueue_advanceDissolve]
  generalize s.advanceDissolve = u
  refine congrArg State.refreshContexts (ite_eq_apply (h := State.withQueue q)
    ((keepsQueue_transition Scene.head).2.2 q u) ?_)
  simp only [State.withQueue_fields]
  split
  next n _ => exact keepsQueue_lookUp b n q u
  next => rfl

theorem keepsQueue_fire (v : Measure) : KeepsQueue (State.fire v) := by
  have hreported : KeepsQueue (State.cutReported v) := fun q s =>
    ite_eq_apply (keepsQueue_offer _ q s) rfl
  intro q s
  rw [State.fire_eq_propose, State.fire_eq_propose]
  exact ite_eq_apply ((keepsQueue_propose _ _).comp hreported q s) (hreported q s)

theorem keepsQueue_fireAndControl (m : Option Measure) (b : Bool) :
    KeepsQueue (State.fireAndControl m b) := by
  intro q s
  cases m with
  | none => exact keepsQueue_controllerBoundary b q s
  | some v =>
    exact ite_eq_apply
      ((keepsQueue_controllerBoundary b).comp (keepsQueue_fire v) q
        { s with freeCount := s.freeCount + 1 })
      ((keepsQueue_fire v).comp (keepsQueue_controllerBoundary b) q
        { s with freeCount := s.freeCount + 1 })

theorem keepsQueue_installBoundary : KeepsQueue State.installBoundary := by
  have htaken : ∀ target, KeepsQueue (State.tableTaken target) := by
    intro target q s
    have htable : (s.withQueue q).installTable target s.loader.buffer =
        (s.installTable target s.loader.buffer).withQueue q := by
      cases target with
      | curve n => exact ite_eq_apply rfl rfl
      | shadingH | shadingV => rfl
    exact congrArg (fun u : State => { u with loader := Loader.idle }) htable
  intro q s
  unfold State.installBoundary
  simp only [State.withQueue_fields]
  split
  next target _ _ =>
    split
    next a _ => exact (keepsQueue_offer _).comp (htaken target) q s
    next => exact htaken target q s
  next => rfl

/-- A boundary keeps the queue of waiting commands (R160). -/
theorem keepsQueue_fieldBoundary : KeepsQueue State.fieldBoundary := by
  intro q s
  have hfollowed : (s.withQueue q).followedWork = s.followedWork.withQueue q :=
    (keepsQueue_fireAndControl s.firing s.arrives).comp keepsQueue_followBoundary q s
  have hinstalled : (s.withQueue q).installed = s.installed.withQueue q := by
    unfold State.installed
    rw [hfollowed]
    exact keepsQueue_installBoundary q s.followedWork.filmTaken
  rw [State.fieldBoundary_eq, hinstalled]
  rfl

theorem keepsQueue_loseLock : KeepsQueue State.loseLock := by
  have hlost : KeepsQueue (fun s => (State.raise .syncLost { s with
      raster := { s.raster with locked := false, goodRun := 0, badRun := 0 }
      forcedBlack := true }).completeDissolve) :=
    keepsQueue_completeDissolve.comp ((keepsQueue_raise .syncLost).comp (fun _ _ => rfl))
  exact KeepsQueue.comp (g := fun u => { u with
    follower := u.follower.loseLock
    detector := { u.detector with bins := List.replicate 16 0, capture := none } })
    (fun _ _ => rfl) hlost

theorem keepsQueue_badField : KeepsQueue State.badField := fun q s =>
  ite_eq_apply (ite_eq_apply rfl (keepsQueue_loseLock q s)) rfl

theorem keepsQueue_judgeField : KeepsQueue State.judgeField := by
  have hgood : KeepsQueue State.goodField := fun _ _ => ite_eq_apply rfl (ite_eq_apply rfl rfl)
  exact fun q s => ite_eq_apply (ite_eq_apply (hgood q s) (keepsQueue_badField q s)) rfl

/-- The syncs keep the queue of waiting commands. -/
theorem keepsQueue_syncs (p : Bool) :
    KeepsQueue (State.fieldSync p) ∧ KeepsQueue State.missingSync := by
  refine ⟨fun q s => ?_, fun q s => keepsQueue_badField q s.expired⟩
  rw [State.fieldSync_eq, State.fieldSync_eq, keepsQueue_judgeField]
  exact ite_eq_apply (keepsQueue_fieldBoundary q (s.judgeField.syncMarked p)) rfl

/-! ## Every command -/

/-- A command that is no service, no arrival and no RESET keeps the queue of waiting commands. -/
theorem keepsQueue_plainWork (i : Instr) : KeepsQueue (plainWork i) := by
  obtain ⟨hstart, hcomplete, habandon⟩ := keepsQueue_transmitter
  cases i
  case fieldSync p => exact (keepsQueue_syncs p).1
  case missingSyncExpiry => exact (keepsQueue_syncs true).2
  case guardComplete heard => exact keepsQueue_guardComplete heard
  case transmitStart => exact hstart
  case transmitAbandon => exact habandon
  case transmitComplete => exact hcomplete
  all_goals exact fun _ _ => rfl

/-- Every command is an operation that keeps the queue of waiting commands (log 14). -/
theorem exec_keepsQueue (i : Instr) : ∃ act, KeepsQueue act ∧ ∀ s, exec i s = .next (act s) := by
  have hrunning : ∀ {act : State → State}, KeepsQueue act →
      KeepsQueue (fun s => if s.resetHeld then s else act s) := fun h q s =>
    ite_eq_apply rfl (h q s)
  by_cases hreset : IsReset i
  · rcases hreset with rfl | ⟨straps, rfl⟩
    · exact ⟨_, fun _ _ => rfl, fun _ => rfl⟩
    · exact ⟨_, fun _ _ => rfl, fun _ => rfl⟩
  · cases hservice : serviceCue i with
    | some c =>
      exact ⟨_, hrunning (keepsQueue_serve (keepsQueue_serviceWork c) c), exec_service hservice⟩
    | none =>
      cases harrival : arrivalCommand i with
      | some a =>
        exact ⟨_, hrunning (keepsQueue_takeArrival a.1 15 a.2), exec_arrival harrival⟩
      | none =>
        exact ⟨_, hrunning (keepsQueue_plainWork i), exec_plain hreset harrival hservice⟩

/-- A run goes on from the state that its first step leaves. -/
theorem run_succ {M : Host.Core} {s t : M.State} (h : M.step s = .next t) (k : Nat) :
    M.run (k + 1) s = M.run k t := by
  rw [Host.Core.run, h]

/-- With nothing waiting the engine idles (log 15). -/
theorem run_of_empty {s : State} (h : s.pending = []) (k : Nat) :
    Host.Core.run core k s = .next s := by
  have hstep : step s = .next s := by
    unfold step
    rw [h]
  induction k with
  | zero => rfl
  | succ k ih => exact (run_succ hstep k).trans ih

/-- As many steps as commands wait empty the queue (log 14). -/
theorem run_empties (waiting : List Instr) : ∀ s : State, s.pending = waiting →
    ∃ t : State, t.pending = [] ∧
      ∀ k, Host.Core.run core (waiting.length + k) s = .next t := by
  induction waiting with
  | nil =>
    intro s hs
    exact ⟨s, hs, fun k => run_of_empty hs _⟩
  | cons i rest ih =>
    intro s hs
    obtain ⟨act, hkeeps, hexec⟩ := exec_keepsQueue i
    have hstep : step s = .next (act (s.withQueue rest)) := by
      unfold step
      rw [hs]
      exact hexec _
    obtain ⟨t, ht, hrun⟩ := ih (act (s.withQueue rest)) (by rw [hkeeps]; rfl)
    refine ⟨t, ht, fun k => ?_⟩
    rw [List.length_cons, Nat.add_right_comm]
    exact (run_succ hstep _).trans (hrun k)

end

/-- Settles O2: every operation commutes with another queue of waiting commands, and a step takes one command off it. -/
theorem everyCommandRuns : Obligations.EveryCommandRuns := by
  unfold Obligations.EveryCommandRuns
  refine ⟨fun c s => ?_, fun s => run_empties s.pending s rfl⟩
  obtain ⟨act, hkeeps, hexec⟩ := exec_keepsQueue c
  have hown : act s = (act s).withQueue s.pending := hkeeps s.pending s
  refine ⟨act s, hexec s, ?_, fun q => (hexec _).trans (congrArg _ (hkeeps q s))⟩
  rw [hown]
  rfl

end Sys2Proof.Machine
